-- ==== Sys2Proof/Word.lean ====
section
/-! DEFINITION. The word types of the block: registers are 8 bits (00_scope.md R14), an input is one 20-bit word
(30_encoding.md R110), the CRC accumulator is 16 bits (R14). -/

namespace Sys2Proof

/-- One byte: a register, a frame byte (R14). -/
abbrev Byte := BitVec 8

/-- One input word (R110). -/
abbrev InputWord := BitVec 20

/-- A Register File address as an input word carries it (R80, R111). -/
abbrev RegAddr := BitVec 9

end Sys2Proof
end

