-- ==== Sys2Proof/Machine/Bits.lean ====
section
/-! DEFINITION. Bit-field primitives of 00_scope.md R15 (`v[i]`, `v[hi:lo]`, `a ++ b`, `rev8`), and little-endian assembly
(20_memory.md R88). -/

namespace Sys2Proof

/-- `v[i]` (R15). -/
def bit {w : Nat} (v : BitVec w) (i : Nat) : Bool := v.getLsbD i

/-- The field of `v` of `n` bits whose lowest bit is bit `lo`: `v[lo+n-1:lo]` (R15). -/
def field {w : Nat} (v : BitVec w) (lo n : Nat) : BitVec n := v.extractLsb' lo n

/-- `hi ++ lo` with `hi` in the high bits (R15), as a word of the stated width `k`. -/
def cat {m n : Nat} (k : Nat) (hi : BitVec m) (lo : BitVec n) : BitVec k := (hi ++ lo).setWidth k

/-- One bit as a word. -/
def bitOf (b : Bool) : BitVec 1 := BitVec.ofBool b

/-- `rev8(b)`: bit `i` goes to bit `7-i` (R15). -/
def rev8 (b : Byte) : Byte :=
  cat 8 (bitOf (bit b 0)) (cat 7 (bitOf (bit b 1)) (cat 6 (bitOf (bit b 2)) (cat 5 (bitOf (bit b 3))
    (cat 4 (bitOf (bit b 4)) (cat 3 (bitOf (bit b 5)) (cat 2 (bitOf (bit b 6)) (bitOf (bit b 7))))))))

/-- Two bytes as a 16-bit value, the first the low byte (R88). -/
def le16 (b0 b1 : Byte) : BitVec 16 := cat 16 b1 b0

/-- A list of bytes as a 64-bit value, the first the least significant (R88, R296's sum). -/
def le64 (bs : List Byte) : BitVec 64 :=
  bs.foldr (fun b acc => (acc <<< 8) ||| b.setWidth 64) 0#64

end Sys2Proof
end

