-- ==== Sys2Proof/Config.lean ====
section
/-! DEFINITION. The implementation parameters of 00_scope.md R13: those with a value in the spec, as definitions; those it
leaves OPEN, and the Environment's draws (R8, R17), as constants without a body, of which nothing can be proved but their
type (log 5, log 6). -/

namespace Sys2Proof

/-- What a reserved frame type does to the filter (R13, R291, 90_conflicts.md C2). -/
inductive ReservedFtPolicy where
  | reject
  | exempt
deriving DecidableEq, Repr

namespace Config

/-- `PREAMBLE_LEN` (R13). -/
def preambleLen : Nat := 4
/-- `SFD_BYTE` (R13). -/
def sfdByte : Byte := 0x7A#8
/-- `ACK_LEN` (R13). -/
def ackLen : Byte := 5#8
/-- `CSMA_NO_CSMA` (R13). -/
def noCsma : BitVec 3 := 7#3
/-- The CRC polynomial of R18. -/
def crcPoly : BitVec 16 := 0x1021#16
/-- The energy-detect invalid sentinel (10_state.md R29). -/
def edInvalid : Byte := 0xFF#8
/-- Broadcast PAN ID and short address (44_address_filter.md R294, R295). -/
def broadcast16 : BitVec 16 := 0xFFFF#16
/-- The default of `RESERVED_FT_POLICY` (R13). -/
def reservedFtPolicy : ReservedFtPolicy := .reject
/-- The default of `EXT_BROADCAST` (R13). -/
def extBroadcast : BitVec 64 := 0xFFFFFFFFFFFFFFFF#64

/-- `SYMBOL_CYCLES`, OPEN (R13, D39). -/
opaque symbolCycles : Nat
/-- `T_BYTE`, OPEN (R13): the Medium's; no rule of the block reads it (R201, log 29). -/
opaque tByte : Nat
/-- `VARIANT_NAME`, OPEN, no effect (R3, R13, log 29). -/
opaque variantName : String
/-- `T_LEAD` at the highest output power. -/
opaque tLeadBase : Nat
/-- How much `T_LEAD` grows from one power level to the next lower output power. -/
opaque tLeadStep : Nat → Nat
/-- `T_LEAD(tx_pwr)` for the levels 0 to 15, in cycles, OPEN, non-increasing as output power rises, that is non-decreasing in
the level number (R13, R27, R440): every such table is some base and steps. -/
def tLead : List Nat :=
  (List.range 16).map (fun p => tLeadBase + ((List.range p).map tLeadStep).sum)
/-- `T_CCA`, in symbol periods, OPEN (R13). -/
opaque tCca : Nat
/-- `T_CCA_MANUAL`, in symbol periods, OPEN (R13, log 26). -/
opaque tCcaManual : Nat
/-- `T_ACK_WAIT`, in symbol periods, OPEN (R13). -/
opaque tAckWait : Nat
/-- `T_ACK_TURN_FAST`, in symbol periods, OPEN (R13). -/
opaque tAckTurnFast : Nat
/-- How much longer than one symbol the slow turnaround exceeds the fast one. -/
opaque tAckTurnExtra : Nat
/-- `T_ACK_TURN`, in symbol periods, OPEN, greater than `T_ACK_TURN_FAST` (R13, R440). -/
def tAckTurn : Nat := tAckTurnFast + 1 + tAckTurnExtra
/-- `T_WAKEUP`, in symbol periods, OPEN (R13). -/
opaque tWakeup : Nat
/-- `BACKOFF_FIXED`, in symbol periods, OPEN (R13, D36). -/
opaque backoffFixed : Nat
/-- `rx_threshold_suppresses(level, rssi)` at a level other than 0, OPEN (R13, D26, log 21). -/
opaque rxThreshold : BitVec 4 → BitVec 5 → Bool
/-- `freq(channel)`, OPEN (R13, D48, log 22). -/
opaque freq : BitVec 5 → Nat

/-- Free value: the energy sample that is draw number `n`, 0 to 254 (R17, D25). -/
opaque freeEnergy : Nat → Fin 255
/-- Free value: the RSSI sample that is draw number `n`, 0 to 31 (R17, D25). -/
opaque freeRssi : Nat → BitVec 5
/-- Free value: the raw backoff answer that is draw number `n` (R17, R326, log 27). -/
opaque freeBackoff : Nat → Nat
/-- Free value: the unspecified byte that reset number `n` leaves at address `a` (R410, D4, log 7). -/
opaque unspecifiedByte : Nat → Nat → Byte

end Config

/-- `REG_ADDR(name)` of R13: the addresses of 10_state.md R23. -/
abbrev Addr.trxpr : Nat := 0x139
abbrev Addr.trxStatus : Nat := 0x141
abbrev Addr.trxState : Nat := 0x142
abbrev Addr.phyTxPwr : Nat := 0x145
abbrev Addr.phyRssi : Nat := 0x146
abbrev Addr.phyEdLevel : Nat := 0x147
abbrev Addr.phyCcCca : Nat := 0x148
abbrev Addr.ccaThres : Nat := 0x149
abbrev Addr.irqMask : Nat := 0x14E
abbrev Addr.irqStatus : Nat := 0x14F
abbrev Addr.rxSyn : Nat := 0x155
abbrev Addr.xahCtrl1 : Nat := 0x157
abbrev Addr.shortAddr0 : Nat := 0x160
abbrev Addr.shortAddr1 : Nat := 0x161
abbrev Addr.panId0 : Nat := 0x162
abbrev Addr.panId1 : Nat := 0x163
/-- IEEE_ADDR_0; IEEE_ADDR_i is at this address plus `i` (R23). -/
abbrev Addr.ieeeAddr0 : Nat := 0x164
abbrev Addr.xahCtrl0 : Nat := 0x16C
abbrev Addr.csmaSeed1 : Nat := 0x16E
abbrev Addr.csmaBe : Nat := 0x16F
abbrev Addr.tstRxLength : Nat := 0x17B
/-- `FB_BASE` (R23). -/
abbrev Addr.fbBase : Nat := 0x180

end Sys2Proof
end

