-- ==== Sys2Proof/Syntax.lean ====
section
/-! DEFINITION. The inputs of the block (30_encoding.md R110), one constructor per row of spec/opcode_table.json. Bits a row
marks "ignored" are no operands (R114, log 24). -/

namespace Sys2Proof

/-- One input. The docstring of a constructor names its row and the rule of its semantics. -/
inductive Instr where
  /-- RD: host read of `addr` (R82). -/
  | rd (addr : RegAddr)
  /-- WR: host write of `data` to a plain-storage address outside the frame buffer (R83). -/
  | wr (addr : RegAddr) (data : Byte)
  /-- WR_FB: host write of frame-buffer byte `index` (R40). -/
  | wrFb (index : BitVec 7) (data : Byte)
  /-- CMD_NOP: command code 0x00 (R163). -/
  | cmdNop
  /-- CMD_TX_START: command code 0x02 (R164). -/
  | cmdTxStart
  /-- CMD_FORCE_TRX_OFF: command code 0x03 (R165). -/
  | cmdForceTrxOff
  /-- CMD_FORCE_PLL_ON: command code 0x04 (R166). -/
  | cmdForcePllOn
  /-- CMD_RX_ON: command code 0x06 (R167). -/
  | cmdRxOn
  /-- CMD_TRX_OFF: command code 0x08 (R168). -/
  | cmdTrxOff
  /-- CMD_PLL_ON: command code 0x09 (R169). -/
  | cmdPllOn
  /-- CMD_RX_AACK_ON: command code 0x16 (R170). -/
  | cmdRxAackOn
  /-- CMD_TX_ARET_ON: command code 0x19 (R171). -/
  | cmdTxAretOn
  /-- CMD_INVALID_01: invalid command code 0x01 (R172). -/
  | cmdInvalid01
  /-- CMD_INVALID_05: invalid command code 0x05 (R172). -/
  | cmdInvalid05
  /-- CMD_INVALID_07: invalid command code 0x07 (R172). -/
  | cmdInvalid07
  /-- CMD_INVALID_0A: invalid command code 0x0A (R172). -/
  | cmdInvalid0A
  /-- CMD_INVALID_0B: invalid command code 0x0B (R172). -/
  | cmdInvalid0B
  /-- CMD_INVALID_0C: invalid command code 0x0C (R172). -/
  | cmdInvalid0C
  /-- CMD_INVALID_0D: invalid command code 0x0D (R172). -/
  | cmdInvalid0D
  /-- CMD_INVALID_0E: invalid command code 0x0E (R172). -/
  | cmdInvalid0E
  /-- CMD_INVALID_0F: invalid command code 0x0F (R172). -/
  | cmdInvalid0F
  /-- CMD_INVALID_10: invalid command code 0x10 (R172). -/
  | cmdInvalid10
  /-- CMD_INVALID_11: invalid command code 0x11 (R172). -/
  | cmdInvalid11
  /-- CMD_INVALID_12: invalid command code 0x12 (R172). -/
  | cmdInvalid12
  /-- CMD_INVALID_13: invalid command code 0x13 (R172). -/
  | cmdInvalid13
  /-- CMD_INVALID_14: invalid command code 0x14 (R172). -/
  | cmdInvalid14
  /-- CMD_INVALID_15: invalid command code 0x15 (R172). -/
  | cmdInvalid15
  /-- CMD_INVALID_17: invalid command code 0x17 (R172). -/
  | cmdInvalid17
  /-- CMD_INVALID_18: invalid command code 0x18 (R172). -/
  | cmdInvalid18
  /-- CMD_INVALID_1A: invalid command code 0x1A (R172). -/
  | cmdInvalid1A
  /-- CMD_INVALID_1B: invalid command code 0x1B (R172). -/
  | cmdInvalid1B
  /-- CMD_INVALID_1C: invalid command code 0x1C (R172). -/
  | cmdInvalid1C
  /-- CMD_INVALID_1D: invalid command code 0x1D (R172). -/
  | cmdInvalid1D
  /-- CMD_INVALID_1E: invalid command code 0x1E (R172). -/
  | cmdInvalid1E
  /-- CMD_INVALID_1F: invalid command code 0x1F (R172). -/
  | cmdInvalid1F
  /-- CCA: write of PHY_CC_CCA with CCA_REQUEST set (R175). -/
  | cca (mode : BitVec 2) (channel : BitVec 5)
  /-- WR_PHY_CC_CCA: write of PHY_CC_CCA with CCA_REQUEST clear (R30). -/
  | wrPhyCcCca (mode : BitVec 2) (channel : BitVec 5)
  /-- TRXRST: write of TRXPR with TRXRST set (R411). -/
  | trxrst
  /-- WR_TRXPR_SLPTR: write of TRXPR with TRXRST clear; `upper` is bits 7:2, which are stored (R83, log 16) (R180). -/
  | wrTrxprSlptr (upper : BitVec 6) (slptr : Bool)
  /-- CLRIRQ: write of IRQ_STATUS (R368). -/
  | clrirq (clearMask : Byte)
  /-- WR_IRQ_MASK: write of IRQ_MASK (R367). -/
  | wrIrqMask (mask : Byte)
  /-- WR_RO_TRX_STATUS: write of a read-only register (R84). -/
  | wrRoTrxStatus
  /-- WR_RO_PHY_RSSI: write of a read-only register (R84). -/
  | wrRoPhyRssi
  /-- WR_RO_PHY_ED_LEVEL: write of a read-only register (R84). -/
  | wrRoPhyEdLevel
  /-- WR_RO_TST_RX_LENGTH: write of a read-only register (R84). -/
  | wrRoTstRxLength
  /-- PULL: the Medium pulls one byte (R202). -/
  | pull
  /-- RXB_L: a locked byte delivered to the Receiver (R242). -/
  | rxbL (byte : Byte)
  /-- RXB_U: an unlocked byte delivered to the Receiver (R243). -/
  | rxbU (byte : Byte)
  /-- FIRE_CCA_DELAY: event 0 fires (R330). -/
  | fireCcaDelay
  /-- FIRE_WAKEUP: event 1 fires (R187). -/
  | fireWakeup
  /-- FIRE_ACK_TIMEOUT: event 2 fires (R331). -/
  | fireAckTimeout
  /-- FIRE_ACK_TRIGGER: event 3 fires (R255). -/
  | fireAckTrigger
  /-- PIN_1: the control line is high (R180). -/
  | pin1
  /-- PIN_0: the control line is low (R180). -/
  | pin0
  /-- RESET_POR: power-on reset (R410). -/
  | resetPor
  /-- RESET_EXPLICIT: explicit reset (R411). -/
  | resetExplicit
  /-- ADV: the clock advances `n` cycles (R383). -/
  | adv (n : BitVec 17)
deriving DecidableEq, Repr

end Sys2Proof
end

