-- ==== Sys2Proof/WellFormed.lean ====
section
/-! DEFINITION. Which terms of `Instr` stand for a row of the opcode table. Every operand is in range by its type; the one
check left is WR's: "the rows below with a longer mask take precedence" (opcode_table.json, WR). -/

namespace Sys2Proof

/-- The addresses whose writes have a row of their own: the trapped and the read-only registers (20_memory.md R83, R84). -/
def specialWriteAddrs : List Nat :=
  [Addr.trxpr, Addr.trxStatus, Addr.trxState, Addr.phyRssi, Addr.phyEdLevel, Addr.phyCcCca, Addr.irqMask, Addr.irqStatus,
    Addr.tstRxLength]

/-- An address is one of WR's own: below the frame buffer and of no longer-masked row. -/
def plainWriteAddr (addr : RegAddr) : Bool :=
  decide (addr.toNat < Addr.fbBase) && !specialWriteAddrs.contains addr.toNat

/-- Well-formed inputs. -/
def Instr.wf : Instr → Bool
  | .rd _ => true
  | .wr addr _ => plainWriteAddr addr
  | .wrFb _ _ => true
  | .cmdNop => true
  | .cmdTxStart => true
  | .cmdForceTrxOff => true
  | .cmdForcePllOn => true
  | .cmdRxOn => true
  | .cmdTrxOff => true
  | .cmdPllOn => true
  | .cmdRxAackOn => true
  | .cmdTxAretOn => true
  | .cmdInvalid01 => true
  | .cmdInvalid05 => true
  | .cmdInvalid07 => true
  | .cmdInvalid0A => true
  | .cmdInvalid0B => true
  | .cmdInvalid0C => true
  | .cmdInvalid0D => true
  | .cmdInvalid0E => true
  | .cmdInvalid0F => true
  | .cmdInvalid10 => true
  | .cmdInvalid11 => true
  | .cmdInvalid12 => true
  | .cmdInvalid13 => true
  | .cmdInvalid14 => true
  | .cmdInvalid15 => true
  | .cmdInvalid17 => true
  | .cmdInvalid18 => true
  | .cmdInvalid1A => true
  | .cmdInvalid1B => true
  | .cmdInvalid1C => true
  | .cmdInvalid1D => true
  | .cmdInvalid1E => true
  | .cmdInvalid1F => true
  | .cca _ _ => true
  | .wrPhyCcCca _ _ => true
  | .trxrst => true
  | .wrTrxprSlptr _ _ => true
  | .clrirq _ => true
  | .wrIrqMask _ => true
  | .wrRoTrxStatus => true
  | .wrRoPhyRssi => true
  | .wrRoPhyEdLevel => true
  | .wrRoTstRxLength => true
  | .pull => true
  | .rxbL _ => true
  | .rxbU _ => true
  | .fireCcaDelay => true
  | .fireWakeup => true
  | .fireAckTimeout => true
  | .fireAckTrigger => true
  | .pin1 => true
  | .pin0 => true
  | .resetPor => true
  | .resetExplicit => true
  | .adv _ => true

end Sys2Proof
end

