-- ==== Sys2Proof/Decode.lean ====
section
/-! DEFINITION. The decoder of the 20-bit input word (30_encoding.md R110 to R114, R120 to R122, and opcode_table.json), and
after it the encoder, written from the same tables. Every 20-bit word decodes (R110); what is refused, by name, is a number
that is no 20-bit word. -/

namespace Sys2Proof

/-- Why a number is not an input word. -/
inductive DecodeError where
  /-- The number does not fit the 20 bits of an input word (R142). -/
  | widerThan20Bits
deriving DecidableEq, Repr

/-- The inputs of a write to TRX_STATE, in the order of the codes 0x00 to 0x1F of its bits 4:0 (R120, R121). -/
def commandTable : List Instr :=
  [.cmdNop, .cmdInvalid01, .cmdTxStart, .cmdForceTrxOff,
   .cmdForcePllOn, .cmdInvalid05, .cmdRxOn, .cmdInvalid07,
   .cmdTrxOff, .cmdPllOn, .cmdInvalid0A, .cmdInvalid0B,
   .cmdInvalid0C, .cmdInvalid0D, .cmdInvalid0E, .cmdInvalid0F,
   .cmdInvalid10, .cmdInvalid11, .cmdInvalid12, .cmdInvalid13,
   .cmdInvalid14, .cmdInvalid15, .cmdRxAackOn, .cmdInvalid17,
   .cmdInvalid18, .cmdTxAretOn, .cmdInvalid1A, .cmdInvalid1B,
   .cmdInvalid1C, .cmdInvalid1D, .cmdInvalid1E, .cmdInvalid1F]

/-- The input of a command code (R120, R121); the table has all 32 codes, so the default is never taken. -/
def decodeCommand (c : BitVec 5) : Instr := commandTable.getD c.toNat .cmdNop

/-- The input of a host write: the opcode table's longer-masked rows before WR (R83, R122). -/
def decodeWrite (addr : RegAddr) (data : Byte) : Instr :=
  let a := addr.toNat
  if Addr.fbBase ≤ a then .wrFb (field addr 0 7) data
  else if a = Addr.trxState then decodeCommand (field data 0 5)
  else if a = Addr.phyCcCca then
    if bit data 7 then .cca (field data 5 2) (field data 0 5) else .wrPhyCcCca (field data 5 2) (field data 0 5)
  else if a = Addr.trxpr then
    if bit data 0 then .trxrst else .wrTrxprSlptr (field data 2 6) (bit data 1)
  else if a = Addr.irqStatus then .clrirq data
  else if a = Addr.irqMask then .wrIrqMask data
  else if a = Addr.trxStatus then .wrRoTrxStatus
  else if a = Addr.phyRssi then .wrRoPhyRssi
  else if a = Addr.phyEdLevel then .wrRoPhyEdLevel
  else if a = Addr.tstRxLength then .wrRoTstRxLength
  else .wr addr data

/-- The input of a TIMER_FIRE word (R112). -/
def decodeFire (e : BitVec 2) : Instr :=
  if e = 0#2 then .fireCcaDelay
  else if e = 1#2 then .fireWakeup
  else if e = 2#2 then .fireAckTimeout
  else .fireAckTrigger

/-- The decoder: total on 20-bit words (R110). -/
def decode (w : InputWord) : Instr :=
  let kind := field w 17 3
  if kind = 0#3 then .rd (field w 8 9)
  else if kind = 1#3 then decodeWrite (field w 8 9) (field w 0 8)
  else if kind = 2#3 then .pull
  else if kind = 3#3 then if bit w 8 then .rxbL (field w 0 8) else .rxbU (field w 0 8)
  else if kind = 4#3 then decodeFire (field w 0 2)
  else if kind = 5#3 then if bit w 0 then .pin1 else .pin0
  else if kind = 6#3 then if bit w 0 then .resetExplicit else .resetPor
  else .adv (field w 0 17)

/-- The decoder on any number: a number of more than 20 bits is refused by name. -/
def decodeNat (w : Nat) : Except DecodeError Instr :=
  if w < 2 ^ 20 then .ok (decode (BitVec.ofNat 20 w)) else .error .widerThan20Bits

/-- The instruction of an opcode-table row's word: `nbits` bits of `w`, every bit above them 0. -/
def decodeTableWord (nbits w : Nat) : Option Instr := (decodeNat (w % 2 ^ nbits)).toOption

/-- The match and the mask of an instruction's row in spec/opcode_table.json. -/
def tableRow : Instr → InputWord × InputWord
  | .rd _ => (0x00000#20, 0xE0000#20)
  | .wr _ _ => (0x20000#20, 0xE0000#20)
  | .wrFb _ _ => (0x38000#20, 0xF8000#20)
  | .cmdNop => (0x34200#20, 0xFFF1F#20)
  | .cmdTxStart => (0x34202#20, 0xFFF1F#20)
  | .cmdForceTrxOff => (0x34203#20, 0xFFF1F#20)
  | .cmdForcePllOn => (0x34204#20, 0xFFF1F#20)
  | .cmdRxOn => (0x34206#20, 0xFFF1F#20)
  | .cmdTrxOff => (0x34208#20, 0xFFF1F#20)
  | .cmdPllOn => (0x34209#20, 0xFFF1F#20)
  | .cmdRxAackOn => (0x34216#20, 0xFFF1F#20)
  | .cmdTxAretOn => (0x34219#20, 0xFFF1F#20)
  | .cmdInvalid01 => (0x34201#20, 0xFFF1F#20)
  | .cmdInvalid05 => (0x34205#20, 0xFFF1F#20)
  | .cmdInvalid07 => (0x34207#20, 0xFFF1F#20)
  | .cmdInvalid0A => (0x3420A#20, 0xFFF1F#20)
  | .cmdInvalid0B => (0x3420B#20, 0xFFF1F#20)
  | .cmdInvalid0C => (0x3420C#20, 0xFFF1F#20)
  | .cmdInvalid0D => (0x3420D#20, 0xFFF1F#20)
  | .cmdInvalid0E => (0x3420E#20, 0xFFF1F#20)
  | .cmdInvalid0F => (0x3420F#20, 0xFFF1F#20)
  | .cmdInvalid10 => (0x34210#20, 0xFFF1F#20)
  | .cmdInvalid11 => (0x34211#20, 0xFFF1F#20)
  | .cmdInvalid12 => (0x34212#20, 0xFFF1F#20)
  | .cmdInvalid13 => (0x34213#20, 0xFFF1F#20)
  | .cmdInvalid14 => (0x34214#20, 0xFFF1F#20)
  | .cmdInvalid15 => (0x34215#20, 0xFFF1F#20)
  | .cmdInvalid17 => (0x34217#20, 0xFFF1F#20)
  | .cmdInvalid18 => (0x34218#20, 0xFFF1F#20)
  | .cmdInvalid1A => (0x3421A#20, 0xFFF1F#20)
  | .cmdInvalid1B => (0x3421B#20, 0xFFF1F#20)
  | .cmdInvalid1C => (0x3421C#20, 0xFFF1F#20)
  | .cmdInvalid1D => (0x3421D#20, 0xFFF1F#20)
  | .cmdInvalid1E => (0x3421E#20, 0xFFF1F#20)
  | .cmdInvalid1F => (0x3421F#20, 0xFFF1F#20)
  | .cca _ _ => (0x34880#20, 0xFFF80#20)
  | .wrPhyCcCca _ _ => (0x34800#20, 0xFFF80#20)
  | .trxrst => (0x33901#20, 0xFFF01#20)
  | .wrTrxprSlptr _ _ => (0x33900#20, 0xFFF01#20)
  | .clrirq _ => (0x34F00#20, 0xFFF00#20)
  | .wrIrqMask _ => (0x34E00#20, 0xFFF00#20)
  | .wrRoTrxStatus => (0x34100#20, 0xFFF00#20)
  | .wrRoPhyRssi => (0x34600#20, 0xFFF00#20)
  | .wrRoPhyEdLevel => (0x34700#20, 0xFFF00#20)
  | .wrRoTstRxLength => (0x37B00#20, 0xFFF00#20)
  | .pull => (0x40000#20, 0xE0000#20)
  | .rxbL _ => (0x60100#20, 0xE0100#20)
  | .rxbU _ => (0x60000#20, 0xE0100#20)
  | .fireCcaDelay => (0x80000#20, 0xE0003#20)
  | .fireWakeup => (0x80001#20, 0xE0003#20)
  | .fireAckTimeout => (0x80002#20, 0xE0003#20)
  | .fireAckTrigger => (0x80003#20, 0xE0003#20)
  | .pin1 => (0xA0001#20, 0xE0001#20)
  | .pin0 => (0xA0000#20, 0xE0001#20)
  | .resetPor => (0xC0000#20, 0xE0001#20)
  | .resetExplicit => (0xC0001#20, 0xE0001#20)
  | .adv _ => (0xE0000#20, 0xE0000#20)

/-- A word of kind `k` whose bits 16:0 are `x` (R110). -/
def kindWord (k : BitVec 3) (x : BitVec 17) : InputWord := cat 20 k x

/-- The word of a host write (R110, R111). -/
def writeWord (addr : RegAddr) (data : Byte) : InputWord := kindWord 1#3 (cat 17 addr data)

/-- The word of a command code; the ignored bits 7:5 of the data are printed as 0 (R114, R120). -/
def commandWord (c : BitVec 5) : InputWord := writeWord (BitVec.ofNat 9 Addr.trxState) (cat 8 0#3 c)

/-- The encoder: the word of a well-formed input, ignored bits 0 (R114). -/
def encode : Instr → InputWord
  | .rd addr => kindWord 0#3 (cat 17 addr 0#8)
  | .wr addr data => writeWord addr data
  | .wrFb index data => writeWord (cat 9 3#2 index) data
  | .cmdNop => commandWord 0x00#5
  | .cmdTxStart => commandWord 0x02#5
  | .cmdForceTrxOff => commandWord 0x03#5
  | .cmdForcePllOn => commandWord 0x04#5
  | .cmdRxOn => commandWord 0x06#5
  | .cmdTrxOff => commandWord 0x08#5
  | .cmdPllOn => commandWord 0x09#5
  | .cmdRxAackOn => commandWord 0x16#5
  | .cmdTxAretOn => commandWord 0x19#5
  | .cmdInvalid01 => commandWord 0x01#5
  | .cmdInvalid05 => commandWord 0x05#5
  | .cmdInvalid07 => commandWord 0x07#5
  | .cmdInvalid0A => commandWord 0x0A#5
  | .cmdInvalid0B => commandWord 0x0B#5
  | .cmdInvalid0C => commandWord 0x0C#5
  | .cmdInvalid0D => commandWord 0x0D#5
  | .cmdInvalid0E => commandWord 0x0E#5
  | .cmdInvalid0F => commandWord 0x0F#5
  | .cmdInvalid10 => commandWord 0x10#5
  | .cmdInvalid11 => commandWord 0x11#5
  | .cmdInvalid12 => commandWord 0x12#5
  | .cmdInvalid13 => commandWord 0x13#5
  | .cmdInvalid14 => commandWord 0x14#5
  | .cmdInvalid15 => commandWord 0x15#5
  | .cmdInvalid17 => commandWord 0x17#5
  | .cmdInvalid18 => commandWord 0x18#5
  | .cmdInvalid1A => commandWord 0x1A#5
  | .cmdInvalid1B => commandWord 0x1B#5
  | .cmdInvalid1C => commandWord 0x1C#5
  | .cmdInvalid1D => commandWord 0x1D#5
  | .cmdInvalid1E => commandWord 0x1E#5
  | .cmdInvalid1F => commandWord 0x1F#5
  | .cca mode channel => writeWord (BitVec.ofNat 9 Addr.phyCcCca) (cat 8 1#1 (cat 7 mode channel))
  | .wrPhyCcCca mode channel => writeWord (BitVec.ofNat 9 Addr.phyCcCca) (cat 8 0#1 (cat 7 mode channel))
  | .trxrst => writeWord (BitVec.ofNat 9 Addr.trxpr) 0x01#8
  | .wrTrxprSlptr upper slptr => writeWord (BitVec.ofNat 9 Addr.trxpr) (cat 8 upper (cat 2 (bitOf slptr) 0#1))
  | .clrirq clearMask => writeWord (BitVec.ofNat 9 Addr.irqStatus) clearMask
  | .wrIrqMask mask => writeWord (BitVec.ofNat 9 Addr.irqMask) mask
  | .wrRoTrxStatus => writeWord (BitVec.ofNat 9 Addr.trxStatus) 0#8
  | .wrRoPhyRssi => writeWord (BitVec.ofNat 9 Addr.phyRssi) 0#8
  | .wrRoPhyEdLevel => writeWord (BitVec.ofNat 9 Addr.phyEdLevel) 0#8
  | .wrRoTstRxLength => writeWord (BitVec.ofNat 9 Addr.tstRxLength) 0#8
  | .pull => kindWord 2#3 0#17
  | .rxbL byte => kindWord 3#3 (cat 17 1#9 byte)
  | .rxbU byte => kindWord 3#3 (cat 17 0#9 byte)
  | .fireCcaDelay => kindWord 4#3 0#17
  | .fireWakeup => kindWord 4#3 1#17
  | .fireAckTimeout => kindWord 4#3 2#17
  | .fireAckTrigger => kindWord 4#3 3#17
  | .pin1 => kindWord 5#3 1#17
  | .pin0 => kindWord 5#3 0#17
  | .resetPor => kindWord 6#3 0#17
  | .resetExplicit => kindWord 6#3 1#17
  | .adv n => kindWord 7#3 n

end Sys2Proof
end

