-- ==== Sys2Proof/Machine/State.lean ====
section
/-! DEFINITION. The state of the block as plain data: the Register File (10_state.md R22), the internal state of R46 to R58,
the model's own fields (input list, output list, oracle answers, open parameters; logs 1, 4, 5, 6, 7), the named reasons a
step stops, and the state after power-on reset (70_reset_and_hazards.md R410). -/

namespace Sys2Proof.Machine

/-- OperatingState `S` (10_state.md R46). -/
inductive OpState where
  | off | sleep | trxOff | pllOn | rxOn | rxAackOn | busyRx | busyRxAack | busyTx | busyTxAret | txAretOn | transition
deriving DecidableEq, Repr

/-- Transmitter cursor `tx.st` (R49); `ended` is END. -/
inductive TxCursor where
  | preamble | sfd | length | payload | crcByte1 | crcByte2 | ended
deriving DecidableEq, Repr

/-- Receiver cursor `rx.st` (R50); `ended` is END. -/
inductive RxCursor where
  | sfdScan | sfdMatched1 | sfdMatched2 | inPacket | crc1 | crc2 | ended
deriving DecidableEq, Repr

/-- Address-matcher verdict `rx.filter` (R50). -/
inductive Verdict where
  | pass | reject | exempt
deriving DecidableEq, Repr

/-- The named scheduled events (R52, 30_encoding.md R112). -/
inductive Event where
  | ccaDelay | wakeup | ackTimeout | ackTrigger
deriving DecidableEq, Repr

/-- The interrupt lines (R32, 60_exceptions.md R364). -/
inductive IrqLine where
  | pllLock | pllUnlock | rxStart | rxEnd | ccaEdDone | ami | txEnd | awake
deriving DecidableEq, Repr

/-- What `startTx` sends (42_transmitter.md R200). -/
inductive TxKind where
  | data | ack
deriving DecidableEq, Repr

/-- The condition a diagnostic reports (60_exceptions.md R361). The spec fixes no text (10_state.md R56); one label per
condition (log 11). -/
inductive Diag where
  | commandIgnored (inState : OpState)
  | txStartIgnored (inState : OpState)
  | invalidCommand (code : BitVec 5)
  | readOnlyWrite (addr : Nat)
  | noEdge
  | risingEdgeIgnored (inState : OpState)
  | txAlreadyStarted
  | txAlreadyStopped
  | rxAlreadyStarted
  | rxAlreadyStopped
  | pullWhileStopped
deriving DecidableEq, Repr

/-- One output of a step (00_scope.md R12; 30_encoding.md R111 for the data of a host read). -/
inductive Output where
  | readData (value : Byte)
  | beginTransmit (power : BitVec 4) (frequency : Nat)
  | endTransmit
  | beginReceive (frequency : Nat)
  | endReceive
  | txByte (byte : Byte)
  | irqLine (line : IrqLine) (level : Bool)
  | probe (before after : OpState)
  | powerMode (index : Nat)
  | diag (d : Diag)
deriving DecidableEq, Repr

/-- The Register File's listed bytes, addresses strictly rising (log 7). -/
abbrev Memory := List Host.Cell

/-- Transmitter state (R49). -/
structure Tx where
  active    : Bool
  st        : TxCursor
  cnt       : Nat
  len       : Byte
  crc       : BitVec 16
  isAck     : Bool
  ackReq    : Bool
  ackSeq    : Byte
  leadUntil : Nat
deriving DecidableEq, Repr

/-- Receiver state (R50). `hdr` holds `rx.hdr[1..13]`, position 1 first. -/
structure Rx where
  active  : Bool
  st      : RxCursor
  pos     : Nat
  len     : Byte
  crc     : BitVec 16
  crc1    : Byte
  hdr     : List Byte
  ackReq  : Bool
  dstMode : BitVec 2
  filter  : Verdict
  seqOk   : Bool
deriving DecidableEq, Repr

/-- Pending events (R52): the cycle each is due at, if it is pending. -/
structure Pending where
  ccaDelay   : Option Nat
  wakeup     : Option Nat
  ackTimeout : Option Nat
  ackTrigger : Option Nat
deriving DecidableEq, Repr

/-- The Environment oracle (00_scope.md R8, R17): the answers it has ready, next first, and how many draws have been made.
A draw with no answer ready is the free value of Config at that number (log 6). -/
structure Env where
  energy  : List (Fin 255)
  rssi    : List (BitVec 5)
  backoff : List Nat
  drawn   : Nat
deriving DecidableEq, Repr

/-- The parameters a model takes as arguments (00_scope.md R13, log 5). -/
structure Params where
  symbolCycles     : Nat
  /-- `T_LEAD(p)` at index `p`, in cycles. -/
  tLead            : List Nat
  tCca             : Nat
  tCcaManual       : Nat
  tAckWait         : Nat
  tAckTurn         : Nat
  tAckTurnFast     : Nat
  tWakeup          : Nat
  backoffFixed     : Nat
  reservedFtPolicy : ReservedFtPolicy
  extBroadcast     : BitVec 64
deriving DecidableEq, Repr

/-- The state of the block. -/
structure State where
  /-- MODEL: the input words still offered, next first (log 1). -/
  inputs         : List InputWord
  /-- MODEL: the outputs of all steps so far, oldest first (log 4). -/
  outputs        : List Output
  /-- The Register File (R22). -/
  regFile        : Memory
  /-- MODEL: how many resets have been done, the number of the draw of the unspecified bytes (log 7). -/
  resets         : Nat
  /-- `S` (R46). -/
  opState        : OpState
  /-- PowerModeIndex (R58, log 17). -/
  powerMode      : Nat
  /-- R49. -/
  tx             : Tx
  lastTxSeq      : Byte
  /-- R50. -/
  rx             : Rx
  rxSeq          : Byte
  lastCrcOk      : Bool
  /-- R51. -/
  aretActive     : Bool
  csmaRetries    : BitVec 3
  frameRetries   : BitVec 4
  awaitingAck    : Bool
  sendAck        : Bool
  ccaStartEnergy : Byte
  /-- R52. -/
  pending        : Pending
  /-- R53. -/
  now            : Nat
  /-- R54. -/
  pinLevel       : Bool
  /-- MODEL: the oracle's answers (log 6). -/
  env            : Env
  /-- MODEL: the open parameters (log 5). -/
  params         : Params
deriving DecidableEq, Repr

/-- Why a step has no next state. The block itself never faults (60_exceptions.md R360); each of these is an input that is
not admitted, which the spec calls stuck (00_scope.md R11, 93_implementation_defined.md U16), or no input at all. All are
safe: the model stops where the block has no step. -/
inductive Fault where
  /-- Raised by the step when no input is offered (log 2). Safe. -/
  | noInput
  /-- Raised by PULL while the lead time has not passed (42_transmitter.md R201). Safe. -/
  | pullBeforeLead
  /-- Raised by a FIRE row whose event is not due at `now` (60_exceptions.md R384). Safe. -/
  | fireNotDue (e : Event)
  /-- Raised by ADV when it would pass a pending event (60_exceptions.md R383). Safe. -/
  | advancePastEvent
deriving DecidableEq, Repr

/-- Why an instruction has no meaning in the model. -/
inductive Refusal where
  /-- Raised by an arm of exec whose instruction has no meaning yet. Safe. -/
  | notModelled (mnemonic : String)
deriving DecidableEq, Repr

/-- What a meaning answers. -/
abbrev Result := Host.Outcome State Fault Refusal

/-- Reset column of R49. -/
def Tx.reset : Tx where
  active := false
  st := .ended
  cnt := 0
  len := 0#8
  crc := 0#16
  isAck := false
  ackReq := false
  ackSeq := 0#8
  leadUntil := 0

/-- Reset column of R50. -/
def Rx.reset : Rx where
  active := false
  st := .sfdScan
  pos := 0
  len := 0#8
  crc := 0#16
  crc1 := 0#8
  hdr := List.replicate 13 0#8
  ackReq := false
  dstMode := 0#2
  filter := .pass
  seqOk := false

/-- No event pending (R52). -/
def Pending.empty : Pending := ⟨none, none, none, none⟩

/-- The parameters as the spec leaves them: the open ones are constants without a body (log 5). -/
def Params.ofConfig : Params where
  symbolCycles := Config.symbolCycles
  tLead := Config.tLead
  tCca := Config.tCca
  tCcaManual := Config.tCcaManual
  tAckWait := Config.tAckWait
  tAckTurn := Config.tAckTurn
  tAckTurnFast := Config.tAckTurnFast
  tWakeup := Config.tWakeup
  backoffFixed := Config.backoffFixed
  reservedFtPolicy := Config.reservedFtPolicy
  extBroadcast := Config.extBroadcast

/-- The initial state: after power-on reset, whose one output is `power_mode(0)` (70_reset_and_hazards.md R410: "No probe is
output"; vector V-RST-1); nothing offered yet. -/
def State.reset : State where
  inputs := []
  outputs := [.powerMode 0]
  regFile := []
  resets := 0
  opState := .off
  powerMode := 0
  tx := .reset
  lastTxSeq := 0#8
  rx := .reset
  rxSeq := 0#8
  lastCrcOk := false
  aretActive := false
  csmaRetries := 0#3
  frameRetries := 0#4
  awaitingAck := false
  sendAck := false
  ccaStartEnergy := 0#8
  pending := .empty
  now := 0
  pinLevel := false
  env := { energy := [], rssi := [], backoff := [], drawn := 0 }
  params := .ofConfig

end Sys2Proof.Machine
end

