-- ==== Sys2Proof/Machine/Ops.lean ====
section
/-! DEFINITION. The named operations every meaning is built of: the Register File (20_memory.md), outputs, interrupt posting
(the block's only exception surface, 60_exceptions.md R360, R365), the state setter (41_commands.md R160), scheduled events
(R380, R381), the Environment's draws (00_scope.md R17), and starting and stopping the Transmitter and the Receiver
(42_transmitter.md R200, 43_receiver.md R240). -/

namespace Sys2Proof.Machine

/-! ### The Register File -/

/-- The reset column of 10_state.md R23 for the registers it names, as address and byte. PHY_TX_PWR's bits 7:4 are the model's
choice (log 8). The frame buffer and every unnamed address have no entry: their reset contents are a draw (R410). -/
def resetTable : Memory :=
  [(Addr.trxpr, 0x00#8), (Addr.trxStatus, 0x00#8), (Addr.trxState, 0x00#8), (Addr.phyTxPwr, 0x00#8)] ++
  [(Addr.phyRssi, 0x00#8), (Addr.phyEdLevel, 0xFF#8), (Addr.phyCcCca, 0x2B#8), (Addr.ccaThres, 0xC7#8)] ++
  [(Addr.irqMask, 0x00#8), (Addr.irqStatus, 0x00#8), (Addr.rxSyn, 0x00#8), (Addr.xahCtrl1, 0x00#8)] ++
  [(Addr.shortAddr0, 0xFF#8), (Addr.shortAddr1, 0xFF#8), (Addr.panId0, 0xFF#8), (Addr.panId1, 0xFF#8)] ++
  [(Addr.ieeeAddr0, 0x00#8), (Addr.ieeeAddr0 + 1, 0x00#8), (Addr.ieeeAddr0 + 2, 0x00#8), (Addr.ieeeAddr0 + 3, 0x00#8)] ++
  [(Addr.ieeeAddr0 + 4, 0x00#8), (Addr.ieeeAddr0 + 5, 0x00#8), (Addr.ieeeAddr0 + 6, 0x00#8), (Addr.ieeeAddr0 + 7, 0x00#8)] ++
  [(Addr.xahCtrl0, 0x38#8), (Addr.csmaSeed1, 0x42#8), (Addr.csmaBe, 0x53#8), (Addr.tstRxLength, 0x00#8)]

/-- The byte listed at an address. -/
def Memory.lookup : Memory → Nat → Option Byte
  | [], _ => none
  | (k, v) :: m, a => if k = a then some v else Memory.lookup m a

/-- List a byte at an address, in its place by address. -/
def Memory.insert : Memory → Nat → Byte → Memory
  | [], a, v => [(a, v)]
  | (k, w) :: m, a, v =>
    if a < k then (a, v) :: (k, w) :: m
    else if a = k then (a, v) :: m
    else (k, w) :: Memory.insert m a v

/-- Unlist an address. -/
def Memory.erase (m : Memory) (a : Nat) : Memory := m.filter (fun c => c.1 != a)

/-- The reset value the spec gives an address, if it gives one. -/
def fixedReset (a : Nat) : Option Byte := Memory.lookup resetTable a

/-- What an unlisted address reads as after reset number `n`: its reset value, or the unspecified byte of that reset
(10_state.md R22, R23, R40; 70_reset_and_hazards.md R410; log 7). -/
def unlisted (n a : Nat) : Byte := (fixedReset a).getD (Config.unspecifiedByte n a)

/-- Write a byte, keeping the canonical form: an entry equal to the reset value the spec gives that address is not listed. -/
def Memory.write (m : Memory) (a : Nat) (v : Byte) : Memory :=
  if fixedReset a = some v then Memory.erase m a else Memory.insert m a v

/-- Addresses strictly rising. -/
def Memory.sorted : Memory → Bool
  | [] => true
  | [_] => true
  | c :: d :: m => decide (c.1 < d.1) && Memory.sorted (d :: m)

/-- The canonical form: addresses strictly rising, each inside the 9-bit space (R80), and no entry equal to the reset value
the spec gives its address. -/
def Memory.wf (m : Memory) : Bool :=
  Memory.sorted m && m.all (fun c => decide (c.1 < 0x200) && decide (fixedReset c.1 ≠ some c.2))

/-- Read one byte of a Register File after reset number `n`. -/
def readMem (m : Memory) (n a : Nat) : Byte := (Memory.lookup m a).getD (unlisted n a)

/-- `reg[a]` (00_scope.md R16). -/
def State.reg (s : State) (a : Nat) : Byte := readMem s.regFile s.resets a

/-- `reg[a] <- v` without side effects (R16). -/
def State.setReg (s : State) (a : Nat) (v : Byte) : State := { s with regFile := Memory.write s.regFile a v }

/-- The address of `FB[i]`, `0 <= i < FB_SIZE` (R16; log 23). -/
def fbAddr (i : BitVec 7) : Nat := Addr.fbBase + i.toNat

/-- `FB[i]` (R16). -/
def State.fb (s : State) (i : BitVec 7) : Byte := s.reg (fbAddr i)

/-- `FB[i] <- v`. -/
def State.setFb (s : State) (i : BitVec 7) (v : Byte) : State := s.setReg (fbAddr i) v

/-! ### Outputs and interrupt lines -/

/-- Append one output (R12). -/
def State.emit (s : State) (o : Output) : State := { s with outputs := s.outputs ++ [o] }

/-- Output a diagnostic (R17). -/
def State.diag (s : State) (d : Diag) : State := s.emit (.diag d)

/-- The bit of a line in IRQ_MASK and IRQ_STATUS (10_state.md R32). -/
def IrqLine.bitNo : IrqLine → Nat
  | .pllLock => 0
  | .pllUnlock => 1
  | .rxStart => 2
  | .rxEnd => 3
  | .ccaEdDone => 4
  | .ami => 5
  | .txEnd => 6
  | .awake => 7

/-- The lines in bit order 7 down to 0 (60_exceptions.md R366). -/
def irqLinesDown : List IrqLine := [.awake, .txEnd, .ami, .ccaEdDone, .rxEnd, .rxStart, .pllUnlock, .pllLock]

/-- The levels of all lines: `IRQ_STATUS[i] and IRQ_MASK[i]` (R366, 10_state.md R55). -/
def State.irqLevels (s : State) : Byte := s.reg Addr.irqStatus &&& s.reg Addr.irqMask

/-- The `irq_line` outputs of a change of levels (R366). -/
def irqChanges (before after : Byte) : List Output :=
  (irqLinesDown.filter (fun l => bit before l.bitNo != bit after l.bitNo)).map
    (fun l => .irqLine l (bit after l.bitNo))

/-- `update_irq_lines()`, the levels before the change given (R366). -/
def State.updateIrqLines (s : State) (before : Byte) : State :=
  { s with outputs := s.outputs ++ irqChanges before s.irqLevels }

/-- `post(line)` (R365): the block's exception entry is this one operation. It saves nothing and transfers no control
(R370); the matching return is the host's clear of the bit (R368, R371). -/
def State.post (s : State) (l : IrqLine) : State :=
  (s.setReg Addr.irqStatus (s.reg Addr.irqStatus ||| (1#8 <<< l.bitNo))).updateIrqLines s.irqLevels

/-- The host's clear of IRQ_STATUS bits (R368). -/
def State.clearIrq (s : State) (v : Byte) : State :=
  (s.setReg Addr.irqStatus (s.reg Addr.irqStatus &&& ~~~v)).updateIrqLines s.irqLevels

/-- The host's write of IRQ_MASK (R367). -/
def State.writeIrqMask (s : State) (v : Byte) : State :=
  (s.setReg Addr.irqMask v).updateIrqLines s.irqLevels

/-! ### The operating state -/

/-- The status code of an OperatingState (10_state.md R47). -/
def OpState.code : OpState → BitVec 5
  | .off => 0x00#5
  | .busyRx => 0x01#5
  | .busyTx => 0x02#5
  | .rxOn => 0x06#5
  | .trxOff => 0x08#5
  | .pllOn => 0x09#5
  | .sleep => 0x0F#5
  | .busyRxAack => 0x11#5
  | .busyTxAret => 0x12#5
  | .rxAackOn => 0x16#5
  | .txAretOn => 0x19#5
  | .transition => 0x1F#5

/-- PHY_TX_PWR.TX_PWR (R27). -/
def State.txPwr (s : State) : BitVec 4 := field (s.reg Addr.phyTxPwr) 0 4

/-- PHY_CC_CCA.CHANNEL (R30). -/
def State.channel (s : State) : BitVec 5 := field (s.reg Addr.phyCcCca) 0 5

/-- The PowerModeIndex of an OperatingState, `p` the transmit power level (R58). -/
def powerIndex (x : OpState) (p : BitVec 4) : Nat :=
  match x with
  | .off | .sleep => 0
  | .trxOff | .transition => 1
  | .pllOn | .txAretOn => 2
  | .rxOn | .rxAackOn | .busyRx | .busyRxAack => 3
  | .busyTx | .busyTxAret => 4 + p.toNat

/-- `setState(X)` (41_commands.md R160). -/
def State.setState (s : State) (x : OpState) : State :=
  { s with
    regFile := Memory.write s.regFile Addr.trxStatus (cat 8 (field (s.reg Addr.trxStatus) 5 3) x.code)
    opState := x
    powerMode := powerIndex x s.txPwr
    outputs := s.outputs ++ [.powerMode (powerIndex x s.txPwr), .probe s.opState x] }

/-- The transaction status codes (10_state.md R48). -/
def tracSuccess : BitVec 3 := 0#3
def tracChannelAccessFailure : BitVec 3 := 3#3
def tracNoAck : BitVec 3 := 5#3

/-- `reg[TRX_STATE][7:5] <- code` (R26). -/
def State.setTrac (s : State) (code : BitVec 3) : State :=
  s.setReg Addr.trxState (cat 8 code (field (s.reg Addr.trxState) 0 5))

/-! ### Scheduled events -/

/-- The due cycle of an event, if it is pending (R52). -/
def Pending.get (p : Pending) : Event → Option Nat
  | .ccaDelay => p.ccaDelay
  | .wakeup => p.wakeup
  | .ackTimeout => p.ackTimeout
  | .ackTrigger => p.ackTrigger

/-- Set or clear the due cycle of an event. -/
def Pending.set (p : Pending) (e : Event) (due : Option Nat) : Pending :=
  match e with
  | .ccaDelay => { p with ccaDelay := due }
  | .wakeup => { p with wakeup := due }
  | .ackTimeout => { p with ackTimeout := due }
  | .ackTrigger => { p with ackTrigger := due }

/-- `schedule(E, d)`, `d` in symbol periods (60_exceptions.md R380). -/
def State.schedule (s : State) (e : Event) (d : Nat) : State :=
  { s with pending := s.pending.set e (some (s.now + d * s.params.symbolCycles)) }

/-- `cancel(E)` (R381). -/
def State.cancel (s : State) (e : Event) : State := { s with pending := s.pending.set e none }

/-! ### The Environment's draws -/

/-- The answer of `draw_energy()` (00_scope.md R17), 0 to 254. -/
def State.energyDraw (s : State) : Byte :=
  BitVec.ofNat 8 (s.env.energy.headD (Config.freeEnergy s.env.drawn)).val

/-- The state after `draw_energy()`. -/
def State.popEnergy (s : State) : State :=
  { s with env := { s.env with energy := s.env.energy.tail, drawn := s.env.drawn + 1 } }

/-- The answer of `draw_rssi()` (R17), 0 to 31. -/
def State.rssiDraw (s : State) : BitVec 5 := s.env.rssi.headD (Config.freeRssi s.env.drawn)

/-- The state after `draw_rssi()`. -/
def State.popRssi (s : State) : State :=
  { s with env := { s.env with rssi := s.env.rssi.tail, drawn := s.env.drawn + 1 } }

/-- A raw answer brought into `[lo, hi)`: an answer inside stays as it is, any other becomes some value inside (log 27). -/
def intoRange (lo hi v : Nat) : Nat := lo + (v - lo) % (hi - lo)

/-- The answer of `draw_backoff(lo, hi)` (R17, 45_csma_ack.md R326), in `[lo, hi)`. -/
def State.backoffDraw (s : State) (lo hi : Nat) : Nat :=
  intoRange lo hi (s.env.backoff.headD (Config.freeBackoff s.env.drawn))

/-- The state after `draw_backoff`. -/
def State.popBackoff (s : State) : State :=
  { s with env := { s.env with backoff := s.env.backoff.tail, drawn := s.env.drawn + 1 } }

/-! ### Starting and stopping the Transmitter and the Receiver -/

/-- `T_LEAD(p)`, in cycles (R13). -/
def Params.lead (p : Params) (level : BitVec 4) : Nat := p.tLead.getD level.toNat 0

/-- `startTx(kind)` (42_transmitter.md R200). -/
def State.startTx (s : State) (kind : TxKind) : State :=
  if s.tx.active then s.diag .txAlreadyStarted
  else
    { s with
      tx :=
        { active := true, st := .preamble, cnt := 0, len := 0#8, crc := 0#16, isAck := decide (kind = .ack), ackReq := false,
          ackSeq := if kind = .ack then s.rxSeq else s.tx.ackSeq,
          leadUntil := s.now + s.params.lead s.txPwr }
      outputs := s.outputs ++ [.beginTransmit s.txPwr (Config.freq s.channel)] }

/-- `stopTx()` (R200). -/
def State.stopTx (s : State) : State :=
  if s.tx.active then { s with tx := { s.tx with active := false }, outputs := s.outputs ++ [.endTransmit] }
  else s.diag .txAlreadyStopped

/-- `startRx()` (43_receiver.md R240). -/
def State.startRx (s : State) : State :=
  if s.rx.active then s.diag .rxAlreadyStarted
  else
    { s with
      rx := { s.rx with active := true, st := .sfdScan }
      outputs := s.outputs ++ [.beginReceive (Config.freq s.channel)] }

/-- `stopRx()` (R240). -/
def State.stopRx (s : State) : State :=
  if s.rx.active then
    { s with rx := { s.rx with active := false, st := .sfdScan }, outputs := s.outputs ++ [.endReceive] }
  else s.diag .rxAlreadyStopped

end Sys2Proof.Machine
end

