-- ==== Sys2Proof/Machine/Operands.lean ====
section
/-! DEFINITION. What the rules read: the fields of the configuration registers (10_state.md R27 to R38), the frame header bytes
(R50), and the cursor predicates of 43_receiver.md R241. -/

namespace Sys2Proof.Machine

/-- PHY_CC_CCA.CCA_MODE (R30). -/
def State.ccaMode (s : State) : BitVec 2 := field (s.reg Addr.phyCcCca) 5 2

/-- CCA_THRES.CCA_ED_THRES (R31). -/
def State.edThreshold (s : State) : BitVec 4 := field (s.reg Addr.ccaThres) 0 4

/-- RX_SYN.RX_PDT_DIS (R33). -/
def State.rxDisabled (s : State) : Bool := bit (s.reg Addr.rxSyn) 7

/-- RX_SYN.RX_PDT_LEVEL (R33). -/
def State.pdtLevel (s : State) : BitVec 4 := field (s.reg Addr.rxSyn) 0 4

/-- PHY_RSSI.RSSI (R28). -/
def State.rssi (s : State) : BitVec 5 := field (s.reg Addr.phyRssi) 0 5

/-- XAH_CTRL_1.AACK_ACK_TIME, the fast-ACK bit (R34). -/
def State.fastAck (s : State) : Bool := bit (s.reg Addr.xahCtrl1) 2

/-- SHORT_ADDR (R35). -/
def State.shortAddr (s : State) : BitVec 16 := le16 (s.reg Addr.shortAddr0) (s.reg Addr.shortAddr1)

/-- PAN_ID (R35). -/
def State.panId (s : State) : BitVec 16 := le16 (s.reg Addr.panId0) (s.reg Addr.panId1)

/-- IEEE_ADDR (R35). -/
def State.ieeeAddr (s : State) : BitVec 64 := le64 ((List.range 8).map (fun i => s.reg (Addr.ieeeAddr0 + i)))

/-- XAH_CTRL_0.MAX_FRAME_RETRIES (R36). -/
def State.maxFrameRetries (s : State) : BitVec 4 := field (s.reg Addr.xahCtrl0) 4 4

/-- XAH_CTRL_0.MAX_CSMA_RETRIES (R36). -/
def State.maxCsmaRetries (s : State) : BitVec 3 := field (s.reg Addr.xahCtrl0) 1 3

/-- CSMA_SEED_1.AACK_DIS_ACK (R37). -/
def State.ackDisabled (s : State) : Bool := bit (s.reg Addr.csmaSeed1) 4

/-- CSMA_BE.MAX_BE (R38). -/
def State.maxBe (s : State) : BitVec 4 := field (s.reg Addr.csmaBe) 4 4

/-- CSMA_BE.MIN_BE (R38). -/
def State.minBe (s : State) : BitVec 4 := field (s.reg Addr.csmaBe) 0 4

/-- `rx_threshold_suppresses(level, rssi)`: open, `false` at level 0 (00_scope.md R13, log 21). -/
def rxThresholdSuppresses (level : BitVec 4) (rssi : BitVec 5) : Bool :=
  decide (level ≠ 0#4) && Config.rxThreshold level rssi

/-- `rx.hdr[p]`, `1 <= p <= 13` (R50). -/
def Rx.hdrAt (r : Rx) (p : Nat) : Byte := r.hdr.getD (p - 1) 0#8

/-- `rx.hdr[p] <- b`. -/
def Rx.setHdr (r : Rx) (p : Nat) (b : Byte) : Rx := { r with hdr := r.hdr.set (p - 1) b }

/-- A frame is in progress (R50). -/
def RxCursor.inProgress : RxCursor → Bool
  | .sfdMatched2 | .inPacket | .crc1 | .crc2 => true
  | .sfdScan | .sfdMatched1 | .ended => false

/-- `listenState(S)` (43_receiver.md R241). -/
def OpState.listen : OpState → OpState
  | .rxAackOn | .busyRxAack => .rxAackOn
  | .rxOn | .busyRx => .rxOn
  | .off => .off
  | .sleep => .sleep
  | .trxOff => .trxOff
  | .pllOn => .pllOn
  | .busyTx => .busyTx
  | .busyTxAret => .busyTxAret
  | .txAretOn => .txAretOn
  | .transition => .transition

/-- `busyState(S)` (R241). -/
def OpState.busy : OpState → OpState
  | .rxOn => .busyRx
  | .rxAackOn => .busyRxAack
  | .busyRx => .busyRx
  | .busyRxAack => .busyRxAack
  | .off => .off
  | .sleep => .sleep
  | .trxOff => .trxOff
  | .pllOn => .pllOn
  | .busyTx => .busyTx
  | .busyTxAret => .busyTxAret
  | .txAretOn => .txAretOn
  | .transition => .transition

/-- `npay(L)`: the payload bytes of a frame of length `L` (42_transmitter.md R203). -/
def npay (len : Byte) : Nat := if 2 ≤ len.toNat then len.toNat - 2 else 0

end Sys2Proof.Machine
end

