-- ==== Sys2Proof/Machine/Flags.lean ====
section
/-! DEFINITION. The verdicts the block computes: the CRC (00_scope.md R18, 30_encoding.md R139), the CCA verdict
(45_csma_ack.md R321 to R324), the backoff (R326) and when an auto-ACK is wanted (43_receiver.md R253, R254). -/

namespace Sys2Proof.Machine

/-- One bit of `crc16_update` (R18). -/
def crc16Bit (c : BitVec 16) (d : Bool) : BitVec 16 :=
  let sh := c <<< 1
  if bit c 15 != d then sh ^^^ Config.crcPoly else sh

/-- `crc16_update(c, d)`, most significant bit first (R18). -/
def crc16Update (c : BitVec 16) (d : Byte) : BitVec 16 :=
  [7, 6, 5, 4, 3, 2, 1, 0].foldl (fun acc i => crc16Bit acc (bit d i)) c

/-- The CRC of a payload (30_encoding.md R139). -/
def crcOf (payload : List Byte) : BitVec 16 := payload.foldl (fun c b => crc16Update c (rev8 b)) 0#16

/-- CRC_BYTE_1 of an accumulator (R139). -/
def crcFirst (c : BitVec 16) : Byte := rev8 (field c 8 8)

/-- CRC_BYTE_2 of an accumulator (R139). -/
def crcSecond (c : BitVec 16) : Byte := rev8 (field c 0 8)

/-- Carrier sense (45_csma_ack.md R321). -/
def OpState.carrier : OpState → Bool
  | .busyRx | .busyRxAack => true
  | .off | .sleep | .trxOff | .pllOn | .rxOn | .rxAackOn | .busyTx | .busyTxAret | .txAretOn | .transition => false

/-- The larger of two energy samples (R323). -/
def maxEnergy (start cur : Byte) : Byte := if start.toNat < cur.toNat then cur else start

/-- Energy above threshold, the threshold in steps of 2 (R323). -/
def energyAbove (e : Byte) (threshold : BitVec 4) : Bool := decide (2 * threshold.toNat < e.toNat)

/-- The table of R322. -/
def ccaTable (mode : BitVec 2) (carrier energy : Bool) : Bool :=
  if mode = 0#2 then carrier || energy
  else if mode = 1#2 then energy
  else if mode = 2#2 then carrier
  else carrier && energy

/-- The busy verdict of `ccaBusy(start, cur)` (R324). -/
def State.ccaBusy (s : State) (start cur : Byte) : Bool :=
  ccaTable s.ccaMode s.opState.carrier (energyAbove (maxEnergy start cur) s.edThreshold)

/-- `backoff()` draws from the oracle: MAX_BE is set and the range is not empty (R326). -/
def State.backoffDraws (s : State) : Bool := decide (s.maxBe ≠ 0#4) && decide (s.minBe.toNat < s.maxBe.toNat)

/-- The answer of `backoff()`, in symbol periods (R326). -/
def State.backoff (s : State) : Nat :=
  if s.maxBe = 0#4 then s.params.backoffFixed
  else if s.maxBe.toNat ≤ s.minBe.toNat then 2 ^ s.minBe.toNat
  else s.backoffDraw (2 ^ s.minBe.toNat) (2 ^ s.maxBe.toNat)

/-- The state after `backoff()`: one draw where it draws. -/
def State.popBackoffIfDrawn (s : State) : State := if s.backoffDraws then s.popBackoff else s

/-- `ackWanted()` (43_receiver.md R253). -/
def State.ackWanted (s : State) : Bool :=
  s.lastCrcOk && s.rx.ackReq && decide (s.opState = .busyRxAack) && !s.ackDisabled

/-- `turn()`, in symbol periods (R254). -/
def State.ackTurn (s : State) : Nat := if s.fastAck then s.params.tAckTurnFast else s.params.tAckTurn

end Sys2Proof.Machine
end

