-- ==== Sys2Proof/Machine/Clock.lean ====
section
/-! DEFINITION. The Event Clock: admission of a firing (60_exceptions.md R384) and CLOCK_ADVANCE (R383). -/

namespace Sys2Proof.Machine

/-- TIMER_FIRE: admitted when the event is due at `now`; its step first clears the event, then runs the handler (R384). A
firing that is not due is not admitted (00_scope.md R11, log 3). -/
def fire (e : Event) (handler : State → State) (s : State) : Result :=
  if s.pending.get e = some s.now then .next (handler (s.cancel e)) else .fault (.fireNotDue e)

/-- No pending event would be passed by a clock at `t`: `t <= pending[E]` for every pending E (R383). -/
def Pending.allows (p : Pending) (t : Nat) : Bool :=
  [Event.ccaDelay, .wakeup, .ackTimeout, .ackTrigger].all
    (fun e => match p.get e with
      | none => true
      | some due => decide (t ≤ due))

/-- ADV (R383): an advance past a pending event is not admitted (log 3). -/
def execAdv (n : BitVec 17) (s : State) : Result :=
  if s.pending.allows (s.now + n.toNat) then .next { s with now := s.now + n.toNat } else .fault .advancePastEvent

end Sys2Proof.Machine
end

