-- ==== Sys2Proof/Machine/Csma.lean ====
section
/-! DEFINITION. The CCA arbiter, the CSMA/CA backoff engine and the ACK retry (45_csma_ack.md). -/

namespace Sys2Proof.Machine

/-- `csmaStartOrTx()` (R328). -/
def State.csmaStartOrTx (s : State) : State :=
  if s.csmaRetries = Config.noCsma then s.startTx .data
  else State.schedule { s.popEnergy with ccaStartEnergy := s.energyDraw } .ccaDelay s.params.tCca

/-- `beginAret()` (R327). -/
def State.beginAret (s : State) : State :=
  let s := s.setState .busyTxAret
  State.csmaStartOrTx
    { s with
      aretActive := true
      awaitingAck := false
      frameRetries := s.maxFrameRetries
      csmaRetries := s.maxCsmaRetries }

/-- `aretFinish(code)` (R329). -/
def State.aretFinish (s : State) (code : BitVec 3) : State :=
  let s : State := { s with aretActive := false, awaitingAck := false }
  let s := if s.tx.active then s.stopTx else s
  let s := if s.rx.active then s.stopRx else s
  ((s.setTrac code).setState .txAretOn).post .txEnd

/-- `aretCca()` (R330): a busy verdict with retries left decrements the counter (R325), draws the start sample and schedules
the next CCA after a backoff; with none left the sequence fails; an idle verdict starts the Transmitter. -/
def State.aretCca (s : State) : State :=
  let busy := s.ccaBusy s.ccaStartEnergy s.energyDraw
  let s := s.popEnergy
  if busy then
    if 0 < s.csmaRetries.toNat then
      let s : State := { s.popEnergy with csmaRetries := s.csmaRetries - 1#3, ccaStartEnergy := s.energyDraw }
      s.popBackoffIfDrawn.schedule .ccaDelay s.backoff
    else s.aretFinish tracChannelAccessFailure
  else s.startTx .data

/-- `manualCcaComplete()` (R334): CCA_DONE, CCA_BUSY, PHY_ED_LEVEL, CCA_ED_DONE. -/
def State.manualCcaComplete (s : State) : State :=
  let busy := s.ccaBusy s.ccaStartEnergy s.energyDraw
  let e := maxEnergy s.ccaStartEnergy s.energyDraw
  let s := s.popEnergy
  let s := s.setReg Addr.trxStatus (cat 8 (cat 2 1#1 (bitOf busy)) (field (s.reg Addr.trxStatus) 0 6))
  (s.setReg Addr.phyEdLevel e).post .ccaEdDone

/-- `onCcaDelay()` (R330): which CCA a firing completes is decided at the firing (R320). -/
def State.onCcaDelay (s : State) : State :=
  if s.aretActive && !s.awaitingAck && !s.tx.active then s.aretCca else s.manualCcaComplete

/-- `onAckTimeout()` (R331). -/
def State.onAckTimeout (s : State) : State :=
  if s.awaitingAck then
    let s := State.stopRx { s with awaitingAck := false }
    if 0 < s.frameRetries.toNat then
      State.csmaStartOrTx { s with frameRetries := s.frameRetries - 1#4, csmaRetries := s.maxCsmaRetries }
    else s.aretFinish tracNoAck
  else s

/-- FIRE_CCA_DELAY (R330, 60_exceptions.md R384). -/
def execFireCcaDelay (s : State) : Result := fire .ccaDelay State.onCcaDelay s

/-- FIRE_ACK_TIMEOUT (R331, 60_exceptions.md R384). -/
def execFireAckTimeout (s : State) : Result := fire .ackTimeout State.onAckTimeout s

end Sys2Proof.Machine
end

