-- ==== Sys2Proof/Machine/Commands.lean ====
section
/-! DEFINITION. The commands of TRX_STATE and the synthetic manual-CCA command (41_commands.md R161 to R175): one definition
per command rule, the gate of R161 over them, and the meanings of the command rows. -/

namespace Sys2Proof.Machine

/-- A command as `apply_command` takes it: the codes of 30_encoding.md R120, the invalid codes (R121) and 0x42 (R122). -/
inductive Command where
  | nop | txStart | forceTrxOff | forcePllOn | rxOn | trxOff | pllOn | rxAackOn | txAretOn
  | invalid (code : BitVec 5)
  | manualCca
deriving DecidableEq, Repr

/-- The command of a 5-bit code (30_encoding.md R120, R121). -/
def commandOfCode (c : BitVec 5) : Command :=
  if c = 0x00#5 then .nop
  else if c = 0x02#5 then .txStart
  else if c = 0x03#5 then .forceTrxOff
  else if c = 0x04#5 then .forcePllOn
  else if c = 0x06#5 then .rxOn
  else if c = 0x08#5 then .trxOff
  else if c = 0x09#5 then .pllOn
  else if c = 0x16#5 then .rxAackOn
  else if c = 0x19#5 then .txAretOn
  else .invalid c

/-- `abortSequence()` (41_commands.md R162). -/
def State.abortSequence (s : State) : State :=
  State.cancel (State.cancel (State.cancel { s with aretActive := false, awaitingAck := false, sendAck := false }
    .ccaDelay) .ackTimeout) .ackTrigger

/-- NOP (R163). -/
def State.cmdNop (s : State) : State := s

/-- TX_START (R164). -/
def State.cmdTxStart (s : State) : State :=
  if s.opState = .pllOn then (s.setState .busyTx).startTx .data
  else if s.opState = .txAretOn then s.beginAret
  else s.diag (.txStartIgnored s.opState)

/-- FORCE_TRX_OFF (R165). -/
def State.cmdForceTrxOff (s : State) : State := s.abortSequence.stopTx.stopRx.setState .trxOff

/-- FORCE_PLL_ON (R166). -/
def State.cmdForcePllOn (s : State) : State := s.abortSequence.stopTx.stopRx.setState .pllOn

/-- RX_ON (R167). -/
def State.cmdRxOn (s : State) : State := s.abortSequence.stopTx.startRx.setState .rxOn

/-- TRX_OFF (R168). -/
def State.cmdTrxOff (s : State) : State := s.abortSequence.stopTx.stopRx.setState .trxOff

/-- PLL_ON (R169). -/
def State.cmdPllOn (s : State) : State := s.abortSequence.stopTx.stopRx.setState .pllOn

/-- RX_AACK_ON (R170). -/
def State.cmdRxAackOn (s : State) : State := s.abortSequence.stopTx.startRx.setState .rxAackOn

/-- TX_ARET_ON (R171). -/
def State.cmdTxAretOn (s : State) : State := s.abortSequence.stopTx.stopRx.setState .txAretOn

/-- An invalid command code (R172). -/
def State.cmdInvalid (s : State) (code : BitVec 5) : State := s.diag (.invalidCommand code)

/-- The manual CCA (R175): CCA_DONE cleared, the start sample drawn, the completion scheduled. -/
def State.cmdManualCca (s : State) : State :=
  let s := s.setReg Addr.trxStatus (cat 8 0#1 (field (s.reg Addr.trxStatus) 0 7))
  State.schedule { s.popEnergy with ccaStartEnergy := s.energyDraw } .ccaDelay s.params.tCcaManual

/-- The rule of a command (R163 to R172, R175). -/
def State.runCommand (s : State) (c : Command) : State :=
  match c with
  | .nop => s.cmdNop
  | .txStart => s.cmdTxStart
  | .forceTrxOff => s.cmdForceTrxOff
  | .forcePllOn => s.cmdForcePllOn
  | .rxOn => s.cmdRxOn
  | .trxOff => s.cmdTrxOff
  | .pllOn => s.cmdPllOn
  | .rxAackOn => s.cmdRxAackOn
  | .txAretOn => s.cmdTxAretOn
  | .invalid code => s.cmdInvalid code
  | .manualCca => s.cmdManualCca

/-- `apply_command(c)` in OFF (R161). -/
def State.commandInOff (s : State) (c : Command) : State :=
  match c with
  | .trxOff | .forceTrxOff => s.setState .trxOff
  | .nop => s
  | .txStart | .forcePllOn | .rxOn | .pllOn | .rxAackOn | .txAretOn | .invalid _ | .manualCca =>
    s.diag (.commandIgnored .off)

/-- `apply_command(c)`: the state gate, then the rule of the command (R161). The status byte it returns is a later read of
TRX_STATE. -/
def State.applyCommand (s : State) (c : Command) : State :=
  if s.opState = .sleep ∨ s.opState = .transition then s.diag (.commandIgnored s.opState)
  else if s.opState = .off then s.commandInOff c
  else s.runCommand c

/-- A host write of TRX_STATE with the bits 4:0 of the data `code` (20_memory.md R83, R161): the code is stored, TRAC_STATUS
kept (10_state.md R26), then the command is dispatched. -/
def State.writeTrxState (s : State) (code : BitVec 5) : State :=
  (s.setReg Addr.trxState (cat 8 (field (s.reg Addr.trxState) 5 3) code)).applyCommand (commandOfCode code)

/-- A host write of PHY_CC_CCA (20_memory.md R83): bits 6:0 stored, then with `request` the manual CCA (R175). -/
def State.writePhyCcCca (s : State) (request : Bool) (mode : BitVec 2) (channel : BitVec 5) : State :=
  let s := s.setReg Addr.phyCcCca (cat 8 0#1 (cat 7 mode channel))
  if request then s.applyCommand .manualCca else s

/-- CMD_NOP (R163). -/
def execCmdNop (s : State) : Result := .next (s.writeTrxState 0x00#5)

/-- CMD_TX_START (R164). -/
def execCmdTxStart (s : State) : Result := .next (s.writeTrxState 0x02#5)

/-- CMD_FORCE_TRX_OFF (R165). -/
def execCmdForceTrxOff (s : State) : Result := .next (s.writeTrxState 0x03#5)

/-- CMD_FORCE_PLL_ON (R166). -/
def execCmdForcePllOn (s : State) : Result := .next (s.writeTrxState 0x04#5)

/-- CMD_RX_ON (R167). -/
def execCmdRxOn (s : State) : Result := .next (s.writeTrxState 0x06#5)

/-- CMD_TRX_OFF (R168). -/
def execCmdTrxOff (s : State) : Result := .next (s.writeTrxState 0x08#5)

/-- CMD_PLL_ON (R169). -/
def execCmdPllOn (s : State) : Result := .next (s.writeTrxState 0x09#5)

/-- CMD_RX_AACK_ON (R170). -/
def execCmdRxAackOn (s : State) : Result := .next (s.writeTrxState 0x16#5)

/-- CMD_TX_ARET_ON (R171). -/
def execCmdTxAretOn (s : State) : Result := .next (s.writeTrxState 0x19#5)

/-- CMD_INVALID_01 (R172). -/
def execCmdInvalid01 (s : State) : Result := .next (s.writeTrxState 0x01#5)

/-- CMD_INVALID_05 (R172). -/
def execCmdInvalid05 (s : State) : Result := .next (s.writeTrxState 0x05#5)

/-- CMD_INVALID_07 (R172). -/
def execCmdInvalid07 (s : State) : Result := .next (s.writeTrxState 0x07#5)

/-- CMD_INVALID_0A (R172). -/
def execCmdInvalid0A (s : State) : Result := .next (s.writeTrxState 0x0A#5)

/-- CMD_INVALID_0B (R172). -/
def execCmdInvalid0B (s : State) : Result := .next (s.writeTrxState 0x0B#5)

/-- CMD_INVALID_0C (R172). -/
def execCmdInvalid0C (s : State) : Result := .next (s.writeTrxState 0x0C#5)

/-- CMD_INVALID_0D (R172). -/
def execCmdInvalid0D (s : State) : Result := .next (s.writeTrxState 0x0D#5)

/-- CMD_INVALID_0E (R172). -/
def execCmdInvalid0E (s : State) : Result := .next (s.writeTrxState 0x0E#5)

/-- CMD_INVALID_0F (R172). -/
def execCmdInvalid0F (s : State) : Result := .next (s.writeTrxState 0x0F#5)

/-- CMD_INVALID_10 (R172). -/
def execCmdInvalid10 (s : State) : Result := .next (s.writeTrxState 0x10#5)

/-- CMD_INVALID_11 (R172). -/
def execCmdInvalid11 (s : State) : Result := .next (s.writeTrxState 0x11#5)

/-- CMD_INVALID_12 (R172). -/
def execCmdInvalid12 (s : State) : Result := .next (s.writeTrxState 0x12#5)

/-- CMD_INVALID_13 (R172). -/
def execCmdInvalid13 (s : State) : Result := .next (s.writeTrxState 0x13#5)

/-- CMD_INVALID_14 (R172). -/
def execCmdInvalid14 (s : State) : Result := .next (s.writeTrxState 0x14#5)

/-- CMD_INVALID_15 (R172). -/
def execCmdInvalid15 (s : State) : Result := .next (s.writeTrxState 0x15#5)

/-- CMD_INVALID_17 (R172). -/
def execCmdInvalid17 (s : State) : Result := .next (s.writeTrxState 0x17#5)

/-- CMD_INVALID_18 (R172). -/
def execCmdInvalid18 (s : State) : Result := .next (s.writeTrxState 0x18#5)

/-- CMD_INVALID_1A (R172). -/
def execCmdInvalid1A (s : State) : Result := .next (s.writeTrxState 0x1A#5)

/-- CMD_INVALID_1B (R172). -/
def execCmdInvalid1B (s : State) : Result := .next (s.writeTrxState 0x1B#5)

/-- CMD_INVALID_1C (R172). -/
def execCmdInvalid1C (s : State) : Result := .next (s.writeTrxState 0x1C#5)

/-- CMD_INVALID_1D (R172). -/
def execCmdInvalid1D (s : State) : Result := .next (s.writeTrxState 0x1D#5)

/-- CMD_INVALID_1E (R172). -/
def execCmdInvalid1E (s : State) : Result := .next (s.writeTrxState 0x1E#5)

/-- CMD_INVALID_1F (R172). -/
def execCmdInvalid1F (s : State) : Result := .next (s.writeTrxState 0x1F#5)

/-- CCA (R175). -/
def execCca (mode : BitVec 2) (channel : BitVec 5) (s : State) : Result := .next (s.writePhyCcCca true mode channel)

/-- WR_PHY_CC_CCA (10_state.md R30, 20_memory.md R83). -/
def execWrPhyCcCca (mode : BitVec 2) (channel : BitVec 5) (s : State) : Result :=
  .next (s.writePhyCcCca false mode channel)

end Sys2Proof.Machine
end

