-- ==== Sys2Proof/Machine/Reset.lean ====
section
/-! DEFINITION. The two resets (70_reset_and_hazards.md R410, R411). -/

namespace Sys2Proof.Machine

/-- The outputs of stopping a running Transmitter and Receiver at a reset (R410: "outputs only if a run was in progress"). -/
def State.resetStops (s : State) : List Output :=
  (if s.tx.active then [.endTransmit] else []) ++ (if s.rx.active then [.endReceive] else [])

/-- What both resets do to registers and internal fields (R410): every one takes its reset value, the unspecified bytes are
drawn anew, no event is pending, `now` stays (10_state.md R53); the lines fall. The inputs still offered, the outputs made, the
oracle and the parameters are no state of the block. -/
def State.resetFields (s : State) : State :=
  State.updateIrqLines
    { State.reset with
      inputs := s.inputs
      outputs := s.outputs ++ s.resetStops
      resets := s.resets + 1
      now := s.now
      env := s.env
      params := s.params }
    s.irqLevels

/-- `power_on_reset()` as a RESET input (R410), the order of its last two outputs as in log 14. -/
def State.powerOnReset (s : State) : State :=
  (s.resetFields.emit (.probe s.opState .off)).emit (.powerMode 0)

/-- `explicit_reset()` (R411). -/
def State.explicitReset (s : State) : State := s.resetFields.setState .trxOff

/-- RESET_POR (R410). -/
def execResetPor (s : State) : Result := .next s.powerOnReset

/-- RESET_EXPLICIT (R411). -/
def execResetExplicit (s : State) : Result := .next s.explicitReset

/-- TRXRST: a write of TRXPR with bit 0 set; SLPTR of the same write is not applied (R411, 20_memory.md R83). -/
def execTrxrst (s : State) : Result := .next s.explicitReset

end Sys2Proof.Machine
end

