-- ==== Sys2Proof/Machine/ControlLine.lean ====
section
/-! DEFINITION. The edge-triggered control line (41_commands.md R180 to R187): the PIN inputs, the write of TRXPR.SLPTR, and
the wakeup event. -/

namespace Sys2Proof.Machine

/-- `enterSleep()` (R181). -/
def State.enterSleep (s : State) : State := (s.setState .sleep).setReg Addr.phyEdLevel Config.edInvalid

/-- A rising edge (R180 to R184). -/
def State.risingEdge (s : State) : State :=
  if s.opState = .trxOff then s.enterSleep
  else if s.opState = .pllOn then (s.setState .busyTx).startTx .data
  else if s.opState = .txAretOn then s.beginAret
  else s.diag (.risingEdgeIgnored s.opState)

/-- A falling edge (R185, R186). -/
def State.fallingEdge (s : State) : State :=
  if s.opState = .sleep then (s.setState .transition).schedule .wakeup s.params.tWakeup else s

/-- `pin_transition(raised)` (R180). -/
def State.pinTransition (s : State) (raised : Bool) : State := if raised then s.risingEdge else s.fallingEdge

/-- The PIN input (R180): no edge is a diagnostic only; an edge sets the level and SLPTR, then runs the transition. -/
def State.pinInput (s : State) (raised : Bool) : State :=
  if raised = s.pinLevel then s.diag .noEdge
  else
    let v := s.reg Addr.trxpr
    let s := s.setReg Addr.trxpr (cat 8 (field v 2 6) (cat 2 (bitOf raised) (field v 0 1)))
    State.pinTransition { s with pinLevel := raised } raised

/-- A host write of TRXPR with TRXRST clear, bits 7:2 and bit 1 given (20_memory.md R83): the byte is stored with bit 0 read
as 0; a change of SLPTR is an edge; `pinLevel` follows SLPTR (10_state.md R54, log 15). -/
def State.writeTrxpr (s : State) (upper : BitVec 6) (slptr : Bool) : State :=
  let old := bit (s.reg Addr.trxpr) 1
  let s : State := { s.setReg Addr.trxpr (cat 8 upper (cat 2 (bitOf slptr) 0#1)) with pinLevel := slptr }
  if slptr = old then s else s.pinTransition slptr

/-- The WAKEUP firing (R187). -/
def State.onWakeup (s : State) : State :=
  if s.opState = .transition then (s.setState .trxOff).post .awake else s

/-- WR_TRXPR_SLPTR (R180, 20_memory.md R83). -/
def execWrTrxprSlptr (upper : BitVec 6) (slptr : Bool) (s : State) : Result := .next (s.writeTrxpr upper slptr)

/-- PIN_1 (R180). -/
def execPin1 (s : State) : Result := .next (s.pinInput true)

/-- PIN_0 (R180). -/
def execPin0 (s : State) : Result := .next (s.pinInput false)

/-- FIRE_WAKEUP (R187, 60_exceptions.md R384). -/
def execFireWakeup (s : State) : Result := fire .wakeup State.onWakeup s

end Sys2Proof.Machine
end

