-- ==== Sys2Proof/Machine/HostAccess.lean ====
section
/-! DEFINITION. The host's register accesses (20_memory.md R82 to R84): the read, the write map, and the meanings of the
access rows. -/

namespace Sys2Proof.Machine

/-- A write to a read-only register: nothing stored, a diagnostic (R84). -/
def State.writeReadOnly (s : State) (a : Nat) : State := s.diag (.readOnlyWrite a)

/-- `MemWrite(a, 1, v)`: the map from address to handler (R83). -/
def State.hostWrite (s : State) (a : Nat) (v : Byte) : State :=
  if a = Addr.trxpr then
    if bit v 0 then s.explicitReset else s.writeTrxpr (field v 2 6) (bit v 1)
  else if a = Addr.trxState then s.writeTrxState (field v 0 5)
  else if a = Addr.phyCcCca then s.writePhyCcCca (bit v 7) (field v 5 2) (field v 0 5)
  else if a = Addr.irqStatus then s.clearIrq v
  else if a = Addr.irqMask then s.writeIrqMask v
  else if a = Addr.trxStatus ∨ a = Addr.phyRssi ∨ a = Addr.phyEdLevel ∨ a = Addr.tstRxLength then s.writeReadOnly a
  else s.setReg a v

/-- RD (R82, 30_encoding.md R111): the output is `reg[addr]`; no state of the block changes. -/
def execRd (addr : RegAddr) (s : State) : Result := .next (s.emit (.readData (s.reg addr.toNat)))

/-- WR (R83). The decoder gives WR only addresses of plain storage; on any other the whole map applies (log 25). -/
def execWr (addr : RegAddr) (data : Byte) (s : State) : Result := .next (s.hostWrite addr.toNat data)

/-- WR_FB (10_state.md R40, 20_memory.md R83): plain storage. -/
def execWrFb (index : BitVec 7) (data : Byte) (s : State) : Result := .next (s.setFb index data)

/-- CLRIRQ (60_exceptions.md R368). -/
def execClrirq (clearMask : Byte) (s : State) : Result := .next (s.clearIrq clearMask)

/-- WR_IRQ_MASK (60_exceptions.md R367). -/
def execWrIrqMask (mask : Byte) (s : State) : Result := .next (s.writeIrqMask mask)

/-- WR_RO_TRX_STATUS (R84). -/
def execWrRoTrxStatus (s : State) : Result := .next (s.writeReadOnly Addr.trxStatus)

/-- WR_RO_PHY_RSSI (R84). -/
def execWrRoPhyRssi (s : State) : Result := .next (s.writeReadOnly Addr.phyRssi)

/-- WR_RO_PHY_ED_LEVEL (R84). -/
def execWrRoPhyEdLevel (s : State) : Result := .next (s.writeReadOnly Addr.phyEdLevel)

/-- WR_RO_TST_RX_LENGTH (R84). -/
def execWrRoTstRxLength (s : State) : Result := .next (s.writeReadOnly Addr.tstRxLength)

end Sys2Proof.Machine
end

