-- ==== Sys2Proof/Machine/AddressFilter.lean ====
section
/-! DEFINITION. The address-filter matcher (44_address_filter.md R290 to R301). -/

namespace Sys2Proof.Machine

/-- `reject()` (R290). -/
def State.rejectFrame (s : State) : State := { s with rx := { s.rx with filter := .reject } }

/-- Position 1, the frame type (R291): types 4 to 7 are reserved (30_encoding.md R136). -/
def State.frameTypeCheck (s : State) (byte : Byte) : State :=
  if 4 ≤ (field byte 0 3).toNat then
    match s.params.reservedFtPolicy with
    | .reject => s.rejectFrame
    | .exempt => { s with rx := { s.rx with filter := .exempt } }
  else s

/-- Position 2, the destination addressing mode; mode 1 is taken as 0 (R292). -/
def State.dstModeRecord (s : State) (byte : Byte) : State :=
  { s with rx := { s.rx with dstMode := if field byte 2 2 = 1#2 then 0#2 else field byte 2 2 } }

/-- Position 3, the sequence number (R293). -/
def State.seqTrack (s : State) (byte : Byte) : State := { s with rxSeq := byte, sendAck := false }

/-- The destination PAN ID received (R294). -/
def Rx.dstPan (r : Rx) : BitVec 16 := le16 (r.hdrAt 4) (r.hdrAt 5)

/-- The short destination address received (R295). -/
def Rx.dstShort (r : Rx) : BitVec 16 := le16 (r.hdrAt 6) (r.hdrAt 7)

/-- The extended destination address received (R296). -/
def Rx.dstExt (r : Rx) : BitVec 64 := le64 ((List.range 8).map (fun i => r.hdrAt (6 + i)))

/-- Position 5, the PAN check (R294). -/
def State.panCheck (s : State) : State :=
  if s.rx.filter = .pass ∧ (s.rx.dstMode = 2#2 ∨ s.rx.dstMode = 3#2) then
    if s.rx.dstPan ≠ s.panId ∧ s.rx.dstPan ≠ Config.broadcast16 then s.rejectFrame else s
  else s

/-- Position 7, the short address check (R295). -/
def State.shortCheck (s : State) : State :=
  if s.rx.filter = .pass ∧ s.rx.dstMode = 2#2 then
    if s.rx.dstShort = s.shortAddr ∨ s.rx.dstShort = Config.broadcast16 then s.post .ami else s.rejectFrame
  else s

/-- Position 13, the extended address check (R296). -/
def State.extCheck (s : State) : State :=
  if s.rx.filter = .pass ∧ s.rx.dstMode = 3#2 then
    if s.rx.dstExt = s.ieeeAddr ∨ s.rx.dstExt = s.params.extBroadcast then s.post .ami else s.rejectFrame
  else s

/-- `addressMatch(byte, p)` (R290). -/
def State.addressMatch (s : State) (byte : Byte) (p : Nat) : State :=
  if s.rx.filter = .reject then s
  else if p = 1 then s.frameTypeCheck byte
  else if p = 2 then s.dstModeRecord byte
  else if p = 3 then s.seqTrack byte
  else if p = 5 then s.panCheck
  else if p = 7 then s.shortCheck
  else if p = 13 then s.extCheck
  else s

end Sys2Proof.Machine
end

