-- ==== Sys2Proof/Machine/Receiver.lean ====
section
/-! DEFINITION. The Receiver's deliveries, the end of a frame, the auto-ACK trigger and the expected ACK (43_receiver.md R242
to R258). -/

namespace Sys2Proof.Machine

/-- The RSSI update of every delivered byte (R244). -/
def State.sampleRssi (s : State) : State :=
  s.popRssi.setReg Addr.phyRssi (cat 8 (field (s.reg Addr.phyRssi) 5 3) s.rssiDraw)

/-- `rx.st <- c`. -/
def State.setRxCursor (s : State) (c : RxCursor) : State := { s with rx := { s.rx with st := c } }

/-- `setState(listenState(S))` at the end of a frame, lost, dropped, rejected or not acknowledged (R243, R247, R251, R252): it
writes nothing else, so `sendAck` is kept (DEDUCED, against 10_state.md R59's summary: log 12). -/
def State.returnToListen (s : State) : State := s.setState s.opState.listen

/-- `lockLost()` (R243). -/
def State.lockLost (s : State) : State :=
  let inFrame := s.rx.st.inProgress
  let s := s.setRxCursor .sfdScan
  if s.awaitingAck then
    if inFrame then s.schedule .ackTimeout 0 else s
  else if inFrame then s.returnToListen
  else s

/-- `sfdMatch()` (R246). -/
def State.sfdMatch (s : State) : State :=
  if s.rxDisabled || rxThresholdSuppresses s.pdtLevel s.rssi then s.setRxCursor .sfdScan
  else
    let s : State :=
      { s with rx := { s.rx with
          st := .sfdMatched2, pos := 0, len := 0#8, crc := 0#16, hdr := List.replicate 13 0#8, ackReq := false,
          dstMode := 0#2, filter := .pass, seqOk := false } }
    let s := s.setReg Addr.phyEdLevel Config.edInvalid
    if s.awaitingAck then s else (s.setState s.opState.busy).post .rxStart

/-- `sync(byte)` (R245). -/
def State.sync (s : State) (byte : Byte) : State :=
  if s.rx.st = .sfdScan then
    if byte = 0x00#8 then s.setRxCursor .sfdMatched1 else s
  else if byte = Config.sfdByte then s.sfdMatch
  else if byte = 0x00#8 then s
  else s.setRxCursor .sfdScan

/-- `lengthByte(byte)` (R247). -/
def State.lengthByte (s : State) (byte : Byte) : State :=
  let len := byte &&& 0x7F#8
  if len.toNat < 2 then
    let s := s.setRxCursor .sfdScan
    if s.awaitingAck then s else s.returnToListen
  else
    let s : State := { s with rx := { s.rx with len := len, st := if len = 2#8 then .crc1 else .inPacket } }
    if s.awaitingAck then s else (s.setFb 0#7 len).setReg Addr.tstRxLength len

/-- `ackSeqCheck(byte)` (R257). -/
def State.ackSeqCheck (s : State) (byte : Byte) : State :=
  if byte = s.lastTxSeq then { s with rx := { s.rx with seqOk := true } }
  else (s.setRxCursor .sfdScan).schedule .ackTimeout 0

/-- What a payload byte at position `p` does besides the CRC, outside an ACK wait (R248). Every payload byte up to position 13
reaches the matcher, so a frame of `LEN = 8` has its PAN check at position 5 (44_address_filter.md R290, R297's `LEN - 2 >= p`);
R297's example says otherwise (DEDUCED, log 32). -/
def State.takePayload (s : State) (byte : Byte) (p : Nat) : State :=
  let s := s.setFb (BitVec.ofNat 7 p) byte
  let s : State := if p = 1 then { s with rx := { s.rx with ackReq := bit byte 5 } } else s
  if p ≤ 13 then State.addressMatch { s with rx := s.rx.setHdr p byte } byte p else s

/-- `payloadByte(byte)` (R248, R256). -/
def State.payloadByte (s : State) (byte : Byte) : State :=
  let p := s.rx.pos + 1
  let s : State := { s with rx := { s.rx with pos := p, crc := crc16Update s.rx.crc (rev8 byte) } }
  let s :=
    if s.awaitingAck then
      if p = 3 then s.ackSeqCheck byte else s
    else s.takePayload byte p
  if s.rx.st = .inPacket ∧ p + 2 = s.rx.len.toNat then s.setRxCursor .crc1 else s

/-- The first CRC byte (R249). -/
def State.crcByte1 (s : State) (byte : Byte) : State :=
  let s : State := { s with rx := { s.rx with crc1 := byte, st := .crc2 } }
  if s.awaitingAck then s else s.setFb (BitVec.ofNat 7 (s.rx.len.toNat - 1)) byte

/-- `acceptedEnd()` (R252). -/
def State.acceptedEnd (s : State) : State :=
  let s := s.post .rxEnd
  if s.ackWanted then State.schedule { s with sendAck := true } .ackTrigger s.ackTurn
  else s.returnToListen

/-- `ackFrameEnd()` (R258). -/
def State.ackFrameEnd (s : State) : State :=
  if s.rx.seqOk && s.lastCrcOk then
    let s := (State.cancel { s with awaitingAck := false } .ackTimeout).stopRx
    ((State.setState { s with aretActive := false } .txAretOn).setTrac tracSuccess).post .txEnd
  else s.schedule .ackTimeout 0

/-- `rxEnd()` (R251). -/
def State.rxEnd (s : State) : State :=
  let s := s.setRxCursor .sfdScan
  if s.awaitingAck then s.ackFrameEnd
  else if s.rx.filter = .reject then s.returnToListen
  else s.acceptedEnd

/-- The verdict of the CRC check (R250). -/
def State.crcMatches (s : State) (byte : Byte) : Bool :=
  decide (s.rx.crc1 = crcFirst s.rx.crc) && decide (byte = crcSecond s.rx.crc)

/-- `lastCRCok <- ok; reg[PHY_RSSI][7] <- ok` (R250, 10_state.md R57). -/
def State.markCrc (s : State) (ok : Bool) : State :=
  { s.setReg Addr.phyRssi (cat 8 (bitOf ok) (field (s.reg Addr.phyRssi) 0 7)) with lastCrcOk := ok }

/-- The check of the second CRC byte, and the byte into the frame buffer outside an ACK wait (R250). -/
def State.crcCheck (s : State) (byte : Byte) : State :=
  let s := s.markCrc (s.crcMatches byte)
  if s.awaitingAck then s else s.setFb (BitVec.ofNat 7 s.rx.len.toNat) byte

/-- The second CRC byte (R250). -/
def State.crcByte2 (s : State) (byte : Byte) : State := ((s.crcCheck byte).setRxCursor .ended).rxEnd

/-- A locked byte by cursor state (R242). The cursor is never END between steps (R251); no rule gives a byte there an effect
(log 13). -/
def State.receiveByte (s : State) (byte : Byte) : State :=
  match s.rx.st with
  | .sfdScan | .sfdMatched1 => s.sync byte
  | .sfdMatched2 => s.lengthByte byte
  | .inPacket => s.payloadByte byte
  | .crc1 => s.crcByte1 byte
  | .crc2 => s.crcByte2 byte
  | .ended => s

/-- `deliver(locked, byte)` (R242): no effect with the Receiver stopped. -/
def State.deliver (s : State) (locked : Bool) (byte : Byte) : State :=
  if s.rx.active then
    if locked then s.sampleRssi.receiveByte byte else s.sampleRssi.lockLost
  else s

/-- `onAckTrigger()` (R255). -/
def State.onAckTrigger (s : State) : State :=
  if s.sendAck && decide (s.opState = .busyRxAack) then
    (State.stopRx { s with sendAck := false }).startTx .ack
  else if decide (s.opState = .busyRxAack) && !s.rx.st.inProgress then s.setState .rxAackOn
  else s

/-- RXB_L (R242). -/
def execRxbL (byte : Byte) (s : State) : Result := .next (s.deliver true byte)

/-- RXB_U (R243). -/
def execRxbU (byte : Byte) (s : State) : Result := .next (s.deliver false byte)

/-- FIRE_ACK_TRIGGER (R255, 60_exceptions.md R384). -/
def execFireAckTrigger (s : State) : Result := fire .ackTrigger State.onAckTrigger s

end Sys2Proof.Machine
end

