-- ==== Sys2Proof/Machine/Transmitter.lean ====
section
/-! DEFINITION. The Transmitter's pulls and the end of a frame (42_transmitter.md R201 to R212). -/

namespace Sys2Proof.Machine

/-- The payload of an auto-ACK, position 1 first (R205's `ackByte`, R212, 30_encoding.md R138). -/
def ackByte (ackSeq : Byte) (p : Nat) : Byte :=
  if p = 1 then 0x02#8 else if p = 2 then 0x00#8 else ackSeq

/-- The payload byte a pull sends: the frame buffer's, or the auto-ACK's (R205). -/
def State.payloadByteAt (s : State) (p : Nat) : Byte :=
  if s.tx.isAck then ackByte s.tx.ackSeq p else s.fb (BitVec.ofNat 7 p)

/-- The length a LENGTH pull sends (R203, 30_encoding.md R131). -/
def State.lengthToSend (s : State) : Byte := if s.tx.isAck then Config.ackLen else s.fb 0#7 &&& 0x7F#8

/-- PREAMBLE pull (R203). -/
def State.pullPreamble (s : State) : State :=
  State.emit
    { s with tx := { s.tx with
        cnt := s.tx.cnt + 1
        st := if s.tx.cnt + 1 = Config.preambleLen then .sfd else .preamble } }
    (.txByte 0x00#8)

/-- SFD pull (R203). -/
def State.pullSfd (s : State) : State :=
  State.emit { s with tx := { s.tx with st := .length } } (.txByte Config.sfdByte)

/-- LENGTH pull (R203, R204). -/
def State.pullLength (s : State) : State :=
  State.emit
    { s with tx := { s.tx with
        len := s.lengthToSend
        cnt := 0
        st := if 0 < npay s.lengthToSend then .payload else .crcByte1 } }
    (.txByte s.lengthToSend)

/-- PAYLOAD pull (R205). -/
def State.pullPayload (s : State) : State :=
  let p := s.tx.cnt + 1
  let b := s.payloadByteAt p
  State.emit
    { s with
      tx := { s.tx with
        cnt := p
        crc := crc16Update s.tx.crc (rev8 b)
        ackReq := if !s.tx.isAck && decide (p = 1) then bit b 5 else s.tx.ackReq
        st := if p = npay s.tx.len then .crcByte1 else .payload }
      lastTxSeq := if !s.tx.isAck && decide (p = 3) then b else s.lastTxSeq }
    (.txByte b)

/-- CRC_BYTE_1 pull (R206). -/
def State.pullCrc1 (s : State) : State :=
  State.emit { s with tx := { s.tx with st := .crcByte2 } } (.txByte (crcFirst s.tx.crc))

/-- End of an auto-ACK (R208). -/
def State.txEndAck (s : State) : State := s.stopTx.startRx.setState .rxAackOn

/-- End of an extended-mode data frame that asked for an ACK (R209). -/
def State.txEndAwait (s : State) : State :=
  (State.schedule { s with awaitingAck := true, rx := { s.rx with seqOk := false } } .ackTimeout
    s.params.tAckWait).stopTx.startRx

/-- Any other end (R210). -/
def State.txEndDone (s : State) : State :=
  let s := s.stopTx
  let s := if s.opState = .busyTxAret then State.setState { s with aretActive := false } .txAretOn else s.setState .pllOn
  (s.setTrac tracSuccess).post .txEnd

/-- `txEnd()` (R207). -/
def State.txEnd (s : State) : State :=
  if s.tx.isAck then s.txEndAck
  else if s.tx.ackReq && decide (s.opState = .busyTxAret) then s.txEndAwait
  else s.txEndDone

/-- CRC_BYTE_2 pull (R206): the byte is output before the outputs of `txEnd()` (R202). -/
def State.pullCrc2 (s : State) : State :=
  (State.emit { s with tx := { s.tx with st := .ended } } (.txByte (crcSecond s.tx.crc))).txEnd

/-- The pull of an active Transmitter (R202). No rule gives END a byte: an active Transmitter is never there between steps
(log 13), and the pull then does nothing. -/
def State.pullActive (s : State) : State :=
  match s.tx.st with
  | .preamble => s.pullPreamble
  | .sfd => s.pullSfd
  | .length => s.pullLength
  | .payload => s.pullPayload
  | .crcByte1 => s.pullCrc1
  | .crcByte2 => s.pullCrc2
  | .ended => s

/-- PULL (R201, R202): with the Transmitter stopped, 0x00 and a diagnostic; before the lead time has passed, not admitted. -/
def execPull (s : State) : Result :=
  if s.tx.active then
    if s.tx.leadUntil ≤ s.now then .next s.pullActive else .fault .pullBeforeLead
  else .next ((s.emit (.txByte 0x00#8)).diag .pullWhileStopped)

end Sys2Proof.Machine
end

