-- ==== Sys2Proof/Machine/Dispatch.lean ====
section
/-! DEFINITION. One arm per constructor of Instr: the meaning of every row of the opcode table. -/

namespace Sys2Proof.Machine

def exec (i : Instr) (s : State) : Host.Outcome State Fault Refusal :=
  match i with
  | .rd addr => Sys2Proof.Machine.execRd addr s
  | .wr addr data => Sys2Proof.Machine.execWr addr data s
  | .wrFb index data => Sys2Proof.Machine.execWrFb index data s
  | .cmdNop => Sys2Proof.Machine.execCmdNop s
  | .cmdTxStart => Sys2Proof.Machine.execCmdTxStart s
  | .cmdForceTrxOff => Sys2Proof.Machine.execCmdForceTrxOff s
  | .cmdForcePllOn => Sys2Proof.Machine.execCmdForcePllOn s
  | .cmdRxOn => Sys2Proof.Machine.execCmdRxOn s
  | .cmdTrxOff => Sys2Proof.Machine.execCmdTrxOff s
  | .cmdPllOn => Sys2Proof.Machine.execCmdPllOn s
  | .cmdRxAackOn => Sys2Proof.Machine.execCmdRxAackOn s
  | .cmdTxAretOn => Sys2Proof.Machine.execCmdTxAretOn s
  | .cmdInvalid01 => Sys2Proof.Machine.execCmdInvalid01 s
  | .cmdInvalid05 => Sys2Proof.Machine.execCmdInvalid05 s
  | .cmdInvalid07 => Sys2Proof.Machine.execCmdInvalid07 s
  | .cmdInvalid0A => Sys2Proof.Machine.execCmdInvalid0A s
  | .cmdInvalid0B => Sys2Proof.Machine.execCmdInvalid0B s
  | .cmdInvalid0C => Sys2Proof.Machine.execCmdInvalid0C s
  | .cmdInvalid0D => Sys2Proof.Machine.execCmdInvalid0D s
  | .cmdInvalid0E => Sys2Proof.Machine.execCmdInvalid0E s
  | .cmdInvalid0F => Sys2Proof.Machine.execCmdInvalid0F s
  | .cmdInvalid10 => Sys2Proof.Machine.execCmdInvalid10 s
  | .cmdInvalid11 => Sys2Proof.Machine.execCmdInvalid11 s
  | .cmdInvalid12 => Sys2Proof.Machine.execCmdInvalid12 s
  | .cmdInvalid13 => Sys2Proof.Machine.execCmdInvalid13 s
  | .cmdInvalid14 => Sys2Proof.Machine.execCmdInvalid14 s
  | .cmdInvalid15 => Sys2Proof.Machine.execCmdInvalid15 s
  | .cmdInvalid17 => Sys2Proof.Machine.execCmdInvalid17 s
  | .cmdInvalid18 => Sys2Proof.Machine.execCmdInvalid18 s
  | .cmdInvalid1A => Sys2Proof.Machine.execCmdInvalid1A s
  | .cmdInvalid1B => Sys2Proof.Machine.execCmdInvalid1B s
  | .cmdInvalid1C => Sys2Proof.Machine.execCmdInvalid1C s
  | .cmdInvalid1D => Sys2Proof.Machine.execCmdInvalid1D s
  | .cmdInvalid1E => Sys2Proof.Machine.execCmdInvalid1E s
  | .cmdInvalid1F => Sys2Proof.Machine.execCmdInvalid1F s
  | .cca mode channel => Sys2Proof.Machine.execCca mode channel s
  | .wrPhyCcCca mode channel => Sys2Proof.Machine.execWrPhyCcCca mode channel s
  | .trxrst => Sys2Proof.Machine.execTrxrst s
  | .wrTrxprSlptr upper slptr => Sys2Proof.Machine.execWrTrxprSlptr upper slptr s
  | .clrirq clearMask => Sys2Proof.Machine.execClrirq clearMask s
  | .wrIrqMask mask => Sys2Proof.Machine.execWrIrqMask mask s
  | .wrRoTrxStatus => Sys2Proof.Machine.execWrRoTrxStatus s
  | .wrRoPhyRssi => Sys2Proof.Machine.execWrRoPhyRssi s
  | .wrRoPhyEdLevel => Sys2Proof.Machine.execWrRoPhyEdLevel s
  | .wrRoTstRxLength => Sys2Proof.Machine.execWrRoTstRxLength s
  | .pull => Sys2Proof.Machine.execPull s
  | .rxbL byte => Sys2Proof.Machine.execRxbL byte s
  | .rxbU byte => Sys2Proof.Machine.execRxbU byte s
  | .fireCcaDelay => Sys2Proof.Machine.execFireCcaDelay s
  | .fireWakeup => Sys2Proof.Machine.execFireWakeup s
  | .fireAckTimeout => Sys2Proof.Machine.execFireAckTimeout s
  | .fireAckTrigger => Sys2Proof.Machine.execFireAckTrigger s
  | .pin1 => Sys2Proof.Machine.execPin1 s
  | .pin0 => Sys2Proof.Machine.execPin0 s
  | .resetPor => Sys2Proof.Machine.execResetPor s
  | .resetExplicit => Sys2Proof.Machine.execResetExplicit s
  | .adv n => Sys2Proof.Machine.execAdv n s

end Sys2Proof.Machine
end

