-- ==== Sys2Proof/Machine/Step.lean ====
section
/-! DEFINITION. One step: the next input offered is decoded and processed to completion (00_scope.md R9, log 1). -/

namespace Sys2Proof.Machine

/-- One step of the block. With no input offered there is no step (log 2). -/
def step (s : State) : Host.Outcome State Fault Refusal :=
  match s.inputs with
  | [] => .fault .noInput
  | w :: rest => exec (decode w) { s with inputs := rest }

/-- `s` with the input word of `nbits` bits of `w` offered next: the very next step takes it. -/
def State.withFetchWord (s : State) (nbits w : Nat) : State :=
  { s with inputs := BitVec.ofNat 20 (w % 2 ^ nbits) :: s.inputs }

end Sys2Proof.Machine
end

