-- ==== Sys2Proof/Safety.lean ====
section
/-! DEFINITION. The terms the claims use: the invariants of a safe state (10_state.md R59 and the mirrors of R46, R54, R57), when
an input is admitted (00_scope.md R11), the command table of 41_commands.md R173, runs of inputs, and the next states the
rules give, field by field, for the statements to name. -/

namespace Sys2Proof.Machine

/-- The Register File is in its canonical form (log 7). -/
abbrev State.MemoryCanonical (s : State) : Prop := Memory.wf s.regFile = true

/-- The registers that mirror internal state, and the bits the tables say read 0: TRX_STATUS[4:0] is the code of `S` and bit 5
reads 0 (R25, R46, R47); SLPTR is `pinLevel` (R54) and TRXRST reads 0 (R24); RX_CRC_VALID is `lastCRCok` (R57) and RND_VALUE
reads 0 (R28); CCA_REQUEST reads 0 (R30); the PLL bits are never posted (R32). -/
abbrev State.Mirrors (s : State) : Prop :=
  field (s.reg Addr.trxStatus) 0 5 = s.opState.code ∧
  bit (s.reg Addr.trxStatus) 5 = false ∧
  bit (s.reg Addr.trxpr) 1 = s.pinLevel ∧
  bit (s.reg Addr.trxpr) 0 = false ∧
  bit (s.reg Addr.phyRssi) 7 = s.lastCrcOk ∧
  field (s.reg Addr.phyRssi) 5 2 = 0#2 ∧
  bit (s.reg Addr.phyCcCca) 7 = false ∧
  field (s.reg Addr.irqStatus) 0 2 = 0#2

/-- Which unit may be active in which OperatingState, and what the sequence flags say (R59). R59's clause on `sendAck` is
`SendAckBusy`; in every state the rules keep RX_AACK_ON or BUSY_RX_AACK (log 12). Beside R59: the Transmitter is stopped
while an ACK waits for its trigger, no ACK_TRIGGER is pending while the ACK is sent, and no cursor rests at END. -/
abbrev State.Sequenced (s : State) : Prop :=
  (s.rx.active = true →
    s.tx.active = false ∧
    (s.opState = .rxOn ∨ s.opState = .rxAackOn ∨ s.opState = .busyRx ∨ s.opState = .busyRxAack ∨
      (s.opState = .busyTxAret ∧ s.awaitingAck = true))) ∧
  (s.tx.active = true →
    (s.tx.isAck = true ∧ s.opState = .busyRxAack) ∨
    (s.tx.isAck = false ∧ (s.opState = .busyTx ∨ s.opState = .busyTxAret))) ∧
  (s.awaitingAck = true → s.aretActive = true ∧ s.tx.active = false) ∧
  (s.aretActive = true ↔ s.opState = .busyTxAret) ∧
  (s.sendAck = true → (s.opState = .rxAackOn ∨ s.opState = .busyRxAack) ∧ s.tx.active = false) ∧
  (s.tx.active = true → s.tx.isAck = true → s.pending.ackTrigger = none) ∧
  s.rx.st ≠ .ended ∧
  (s.tx.active = true → s.tx.st ≠ .ended)

/-- R59's "`sendAck` implies `S = BUSY_RX_AACK`", whole. Every step keeps it but the end of a frame begun while an ACK waits for its
trigger, where R243, R247, R251 and R252 return S to the listen state and write no `sendAck` (log 12). -/
abbrev State.SendAckBusy (s : State) : Prop := s.sendAck = true → s.opState = .busyRxAack

/-- A step that ends a frame received while an ACK waits for its trigger: the Receiver scans again (R243, R247, R251). -/
abbrev State.EndsTurnaroundFrame (s t : State) : Prop :=
  s.sendAck = true ∧ s.opState = .busyRxAack ∧ s.rx.active = true ∧ s.rx.st.inProgress = true ∧
    t.opState = .rxAackOn ∧ t.rx.st = .sfdScan

/-- The cursors stay inside the frame, and the frame inside the frame buffer (R248's "`p <= 125` always", R203, R211). -/
abbrev State.FramesInBounds (s : State) : Prop :=
  s.rx.hdr.length = 13 ∧
  (s.rx.st = .sfdMatched2 → s.rx.pos = 0) ∧
  (s.rx.st = .inPacket → s.rx.pos + 2 < s.rx.len.toNat ∧ s.rx.len.toNat ≤ 127) ∧
  (s.rx.st = .crc1 ∨ s.rx.st = .crc2 → 2 ≤ s.rx.len.toNat ∧ s.rx.len.toNat ≤ 127) ∧
  (s.tx.active = true →
    (s.tx.st = .preamble → s.tx.cnt < Config.preambleLen) ∧
    (s.tx.st = .payload → s.tx.cnt < npay s.tx.len) ∧
    s.tx.len.toNat ≤ 127)

/-- No pending event lies in the past: each is due at `now` or later (60_exceptions.md R383). -/
abbrev State.EventsAhead (s : State) : Prop := s.pending.allows s.now = true

/-- TRAC_STATUS holds one of the three codes of R48. -/
abbrev State.TracLegal (s : State) : Prop :=
  field (s.reg Addr.trxState) 5 3 = 0#3 ∨ field (s.reg Addr.trxState) 5 3 = 3#3 ∨ field (s.reg Addr.trxState) 5 3 = 5#3

/-- When an input is admitted (00_scope.md R11): a pull of an active Transmitter only after the lead time
(42_transmitter.md R201), a firing only of an event due at `now` (60_exceptions.md R384), an advance only up to the next pending
event (R383), every other input always. -/
def Admitted (i : Instr) (s : State) : Prop :=
  match i with
  | .pull => s.tx.active = true → s.tx.leadUntil ≤ s.now
  | .fireCcaDelay => s.pending.ccaDelay = some s.now
  | .fireWakeup => s.pending.wakeup = some s.now
  | .fireAckTimeout => s.pending.ackTimeout = some s.now
  | .fireAckTrigger => s.pending.ackTrigger = some s.now
  | .adv n => ∀ e due, s.pending.get e = some due → s.now + n.toNat ≤ due
  | _ => True

/-- A run of inputs, each processed in turn; `none` where one has no next state. -/
def runInputs : List Instr → State → Option State
  | [], s => some s
  | i :: is, s =>
    match exec i s with
    | .next t => runInputs is t
    | .fault _ => none
    | .refused _ => none

/-- The entries of the table of 41_commands.md R173. -/
inductive CommandCell where
  /-- `=`: a silent no-op. -/
  | silent
  /-- `-`: a no-op with a diagnostic. -/
  | diagnosed
  /-- OFF's TRX_OFF entry: `setState(TRX_OFF)` alone. -/
  | leaveOff
  /-- `A, X`: abort, stop both units, enter X. -/
  | stop (x : OpState)
  /-- `R, X`: abort, stop the Transmitter, start the Receiver, enter X. -/
  | listen (x : OpState)
  /-- BUSY_TX + startTx. -/
  | startFrame
  /-- beginAret. -/
  | beginAret
deriving DecidableEq, Repr

/-- A command's entry in the row of the BUSY and receive states of R173. -/
def busyRowCell (c : BitVec 5) : CommandCell :=
  if c = 0x00#5 then .silent
  else if c = 0x03#5 ∨ c = 0x08#5 then .stop .trxOff
  else if c = 0x04#5 ∨ c = 0x09#5 then .stop .pllOn
  else if c = 0x06#5 then .listen .rxOn
  else if c = 0x16#5 then .listen .rxAackOn
  else if c = 0x19#5 then .stop .txAretOn
  else .diagnosed

/-- The table of R173, the columns NOP to invalid. -/
def commandCell (x : OpState) (c : BitVec 5) : CommandCell :=
  match x with
  | .off => if c = 0x00#5 then .silent else if c = 0x03#5 ∨ c = 0x08#5 then .leaveOff else .diagnosed
  | .sleep | .transition => .diagnosed
  | .pllOn => if c = 0x02#5 then .startFrame else busyRowCell c
  | .txAretOn => if c = 0x02#5 then .beginAret else busyRowCell c
  | .trxOff | .rxOn | .rxAackOn | .busyRx | .busyRxAack | .busyTx | .busyTxAret => busyRowCell c

/-! ### What a statement about one input says -/

/-- The answer is a next state that is `u` but for its Register File, whose byte at each address `a` is `f a`. A statement with
this conclusion says that the input completes, what it changes and what it leaves: every field of `u`, every byte of `f`. -/
abbrev Answers (r : Result) (u : State) (f : Nat → Byte) : Prop :=
  ∃ t, r = .next t ∧ t = { u with regFile := t.regFile } ∧ ∀ a, t.reg a = f a

/-- The output of `update_irq_lines()` for one line, its level before and after given (60_exceptions.md R366). -/
def lineChange (l : IrqLine) (before after : Bool) : List Output :=
  if before = after then [] else [.irqLine l after]

/-- The outputs of `update_irq_lines()`, the levels of all lines before and after given as bytes, bit order 7 down to 0
(R364, R366). -/
def lineChanges (before after : Byte) : List Output :=
  lineChange .awake (bit before 7) (bit after 7) ++ lineChange .txEnd (bit before 6) (bit after 6) ++
  lineChange .ami (bit before 5) (bit after 5) ++ lineChange .ccaEdDone (bit before 4) (bit after 4) ++
  lineChange .rxEnd (bit before 3) (bit after 3) ++ lineChange .rxStart (bit before 2) (bit after 2) ++
  lineChange .pllUnlock (bit before 1) (bit after 1) ++ lineChange .pllLock (bit before 0) (bit after 0)

/-- The output of posting a line (R365, R366): its level rises where it is unmasked and was not posted yet. -/
def State.rise (s : State) (l : IrqLine) : List Output :=
  if bit (s.reg Addr.irqMask) l.bitNo = true ∧ bit (s.reg Addr.irqStatus) l.bitNo = false then [.irqLine l true] else []

/-- The level of a line that the outputs reported last, 0 where they reported none. -/
def lastLevel (os : List Output) (l : IrqLine) : Bool :=
  os.foldl (fun b o => match o with
    | .irqLine l' level => if l' = l then level else b
    | .readData _ | .beginTransmit _ _ | .endTransmit | .beginReceive _ | .endReceive | .txByte _ | .probe _ _
    | .powerMode _ | .diag _ => b) false

/-- The outputs have reported the level every line has now (R366, R370). -/
abbrev State.LinesReported (s : State) : Prop :=
  ∀ l : IrqLine, lastLevel s.outputs l = bit (s.reg Addr.irqStatus &&& s.reg Addr.irqMask) l.bitNo

/-- The bytes the outputs sent on the Medium, in order (42_transmitter.md R202). -/
def bytesSent (os : List Output) : List Byte :=
  os.filterMap (fun o => match o with
    | .txByte b => some b
    | .readData _ | .beginTransmit _ _ | .endTransmit | .beginReceive _ | .endReceive | .irqLine _ _ | .probe _ _
    | .powerMode _ | .diag _ => none)

/-- The bits of an input word that are not ignored, by its kind (30_encoding.md R110). -/
def definedBits (kind : BitVec 3) : InputWord :=
  if kind = 0#3 then 0xFFF00#20
  else if kind = 2#3 then 0xE0000#20
  else if kind = 3#3 then 0xE01FF#20
  else if kind = 4#3 then 0xE0003#20
  else if kind = 5#3 ∨ kind = 6#3 then 0xE0001#20
  else 0xFFFFF#20

/-- The Environment after one energy draw (00_scope.md R17). -/
def Env.afterEnergy (e : Env) : Env := { e with energy := e.energy.tail, drawn := e.drawn + 1 }

/-- The Environment after one RSSI draw. -/
def Env.afterRssi (e : Env) : Env := { e with rssi := e.rssi.tail, drawn := e.drawn + 1 }

/-- The Environment after one backoff draw. -/
def Env.afterBackoff (e : Env) : Env := { e with backoff := e.backoff.tail, drawn := e.drawn + 1 }

/-- A register map with the status code `c` in TRX_STATUS[4:0] (10_state.md R47, 41_commands.md R160). -/
def withStatus (f : Nat → Byte) (c : Byte) : Nat → Byte :=
  fun a => if a = Addr.trxStatus then (f a &&& 0xE0#8) ||| c else f a

/-- The register map after a host write of the command code `c` to TRX_STATE: TRAC_STATUS stays (10_state.md R26). -/
def State.cmdStored (s : State) (c : Byte) : Nat → Byte :=
  fun a => if a = Addr.trxState then (s.reg a &&& 0xE0#8) ||| c else s.reg a

/-- `abortSequence(); stopTx(); stopRx(); setState(x)` with power index `p` (41_commands.md R162, R165), `d` and `d'` the
diagnostics of a unit that was stopped already. -/
def State.stoppedInto (s : State) (x : OpState) (p : Nat) (d d' : Diag) : State :=
  { s with
    opState := x
    powerMode := p
    tx := { s.tx with active := false }
    rx := { s.rx with active := false, st := if s.rx.active then .sfdScan else s.rx.st }
    aretActive := false
    awaitingAck := false
    sendAck := false
    pending := { s.pending with ccaDelay := none, ackTimeout := none, ackTrigger := none }
    outputs := s.outputs ++
      [if s.tx.active then .endTransmit else .diag d, if s.rx.active then .endReceive else .diag d', .powerMode p,
       .probe s.opState x] }

/-- `abortSequence(); stopTx(); startRx(); setState(x)` (R162, R167). -/
def State.listeningIn (s : State) (x : OpState) (d d' : Diag) : State :=
  { s with
    opState := x
    powerMode := 3
    tx := { s.tx with active := false }
    rx := { s.rx with active := true, st := if s.rx.active then s.rx.st else .sfdScan }
    aretActive := false
    awaitingAck := false
    sendAck := false
    pending := { s.pending with ccaDelay := none, ackTimeout := none, ackTrigger := none }
    outputs := s.outputs ++
      [if s.tx.active then .endTransmit else .diag d,
       if s.rx.active then .diag d' else .beginReceive (Config.freq s.channel), .powerMode 3, .probe s.opState x] }

/-- The Transmitter right after `startTx`, `ack` telling an auto-ACK from a data frame (42_transmitter.md R200). -/
def State.freshTx (s : State) (ack : Bool) : Tx where
  active := true
  st := .preamble
  cnt := 0
  len := 0#8
  crc := 0#16
  isAck := ack
  ackReq := false
  ackSeq := if ack then s.rxSeq else s.tx.ackSeq
  leadUntil := s.now + s.params.tLead.getD (field (s.reg Addr.phyTxPwr) 0 4).toNat 0

/-- The output of starting the Transmitter (R200). -/
def State.beginOutput (s : State) : Output :=
  .beginTransmit (field (s.reg Addr.phyTxPwr) 0 4) (Config.freq (field (s.reg Addr.phyCcCca) 0 5))

/-- `setState(BUSY_TX); startTx(DATA)` (41_commands.md R164). -/
def State.frameStarted (s : State) : State :=
  { s with
    opState := .busyTx
    powerMode := 4 + (field (s.reg Addr.phyTxPwr) 0 4).toNat
    tx := s.freshTx false
    outputs := s.outputs ++
      [.powerMode (4 + (field (s.reg Addr.phyTxPwr) 0 4).toNat), .probe s.opState .busyTx, s.beginOutput] }

/-- `csmaRetries <- MAX_CSMA_RETRIES; csmaStartOrTx()` (45_csma_ack.md R328). -/
def State.csmaBegun (s : State) : State :=
  if field (s.reg Addr.xahCtrl0) 1 3 = 7#3 then
    { s with csmaRetries := 7#3, tx := s.freshTx false, outputs := s.outputs ++ [s.beginOutput] }
  else
    { s with
      csmaRetries := field (s.reg Addr.xahCtrl0) 1 3
      ccaStartEnergy := s.energyDraw
      env := s.env.afterEnergy
      pending := { s.pending with ccaDelay := some (s.now + s.params.tCca * s.params.symbolCycles) } }

/-- `beginAret()` (R327). -/
def State.aretBegun (s : State) : State :=
  State.csmaBegun
    { s with
      opState := .busyTxAret
      powerMode := 4 + (field (s.reg Addr.phyTxPwr) 0 4).toNat
      aretActive := true
      awaitingAck := false
      frameRetries := field (s.reg Addr.xahCtrl0) 4 4
      outputs := s.outputs ++
        [.powerMode (4 + (field (s.reg Addr.phyTxPwr) 0 4).toNat), .probe s.opState .busyTxAret] }

/-- The terminal outcome of a failed sequence, both units being stopped (R329). -/
def State.aretFailed (s : State) : State :=
  { s with
    aretActive := false
    awaitingAck := false
    opState := .txAretOn
    powerMode := 2
    outputs := s.outputs ++ [.powerMode 2, .probe s.opState .txAretOn] ++ s.rise .txEnd }

/-- The register map at the end of a sequence: TRAC_STATUS the code `c`, the status of TX_ARET_ON, TX_END posted (R329). -/
def State.aretEndRegs (s : State) (c : Byte) : Nat → Byte :=
  fun a =>
    if a = Addr.trxState then (s.reg a &&& 0x1F#8) ||| (c <<< 5)
    else if a = Addr.trxStatus then (s.reg a &&& 0xE0#8) ||| 0x19#8
    else if a = Addr.irqStatus then s.reg a ||| 0x40#8
    else s.reg a

/-- A manual CCA request in a state that takes it (41_commands.md R175). -/
def State.ccaRequested (s : State) : State :=
  { s with
    ccaStartEnergy := s.energyDraw
    env := s.env.afterEnergy
    pending := { s.pending with ccaDelay := some (s.now + s.params.tCcaManual * s.params.symbolCycles) } }

/-- The register map with mode and channel stored in PHY_CC_CCA, bit 7 reading 0 (10_state.md R30). -/
def State.ccaStored (s : State) (m : BitVec 2) (c : BitVec 5) : Nat → Byte :=
  fun a => if a = Addr.phyCcCca then (m.setWidth 8 <<< 5) ||| c.setWidth 8 else s.reg a

/-- The register map after the request: mode and channel stored, CCA_DONE cleared (R175). -/
def State.ccaRequestedRegs (s : State) (m : BitVec 2) (c : BitVec 5) : Nat → Byte :=
  fun a => if a = Addr.trxStatus then s.reg a &&& 0x7F#8 else s.ccaStored m c a

/-- What an entry of R173 says of a command, `r` the step's answer and `f` the register map with the command stored. -/
def CommandCell.Holds (cell : CommandCell) (r : Result) (s : State) (f : Nat → Byte) : Prop :=
  match cell with
  | .silent => Answers r s f
  | .diagnosed => ∃ d, Answers r { s with outputs := s.outputs ++ [.diag d] } f
  | .leaveOff =>
    Answers r { s with opState := .trxOff, powerMode := 1, outputs := s.outputs ++ [.powerMode 1, .probe .off .trxOff] }
      (withStatus f 0x08#8)
  | .stop x => ∃ d d', Answers r (s.stoppedInto x (if x = .trxOff then 1 else 2) d d') (withStatus f (x.code.setWidth 8))
  | .listen x => ∃ d d', Answers r (s.listeningIn x d d') (withStatus f (x.code.setWidth 8))
  | .startFrame => Answers r s.frameStarted (withStatus f 0x02#8)
  | .beginAret => Answers r s.aretBegun (withStatus f 0x12#8)

/-- An input that is a rising edge of the control line in `s`, `v` the byte TRXPR then holds (41_commands.md R180,
20_memory.md R83). -/
def RisingInput (i : Instr) (s : State) (v : Byte) : Prop :=
  (i = .pin1 ∧ s.pinLevel = false ∧ v = s.reg Addr.trxpr ||| 0x02#8) ∨
  (∃ u, i = .wrTrxprSlptr u true ∧ bit (s.reg Addr.trxpr) 1 = false ∧ v = (u.setWidth 8 <<< 2) ||| 0x02#8)

/-- An input that is a falling edge. -/
def FallingInput (i : Instr) (s : State) (v : Byte) : Prop :=
  (i = .pin0 ∧ s.pinLevel = true ∧ v = s.reg Addr.trxpr &&& 0xFD#8) ∨
  (∃ u, i = .wrTrxprSlptr u false ∧ bit (s.reg Addr.trxpr) 1 = true ∧ v = u.setWidth 8 <<< 2)

/-- A register map with `v` in TRXPR. -/
def State.trxprStored (s : State) (v : Byte) : Nat → Byte := fun a => if a = Addr.trxpr then v else s.reg a

/-- The rows of invalid command codes with their codes (30_encoding.md R121). -/
def invalidCommandRows : List (Instr × Byte) :=
  [(.cmdInvalid01, 0x01#8), (.cmdInvalid05, 0x05#8), (.cmdInvalid07, 0x07#8), (.cmdInvalid0A, 0x0A#8),
   (.cmdInvalid0B, 0x0B#8), (.cmdInvalid0C, 0x0C#8), (.cmdInvalid0D, 0x0D#8), (.cmdInvalid0E, 0x0E#8)] ++
  [(.cmdInvalid0F, 0x0F#8), (.cmdInvalid10, 0x10#8), (.cmdInvalid11, 0x11#8), (.cmdInvalid12, 0x12#8),
   (.cmdInvalid13, 0x13#8), (.cmdInvalid14, 0x14#8), (.cmdInvalid15, 0x15#8), (.cmdInvalid17, 0x17#8)] ++
  [(.cmdInvalid18, 0x18#8), (.cmdInvalid1A, 0x1A#8), (.cmdInvalid1B, 0x1B#8), (.cmdInvalid1C, 0x1C#8),
   (.cmdInvalid1D, 0x1D#8), (.cmdInvalid1E, 0x1E#8), (.cmdInvalid1F, 0x1F#8)]

/-- The named registers' reset values as 10_state.md R23 writes them; PHY_TX_PWR, of which only bits 3:0 have one, apart. -/
def resetValues : List (Nat × Byte) :=
  [(0x139, 0x00#8), (0x141, 0x00#8), (0x142, 0x00#8), (0x146, 0x00#8), (0x147, 0xFF#8), (0x148, 0x2B#8), (0x149, 0xC7#8)] ++
  [(0x14E, 0x00#8), (0x14F, 0x00#8), (0x155, 0x00#8), (0x157, 0x00#8), (0x160, 0xFF#8), (0x161, 0xFF#8)] ++
  [(0x162, 0xFF#8), (0x163, 0xFF#8), (0x164, 0x00#8), (0x165, 0x00#8), (0x166, 0x00#8), (0x167, 0x00#8)] ++
  [(0x168, 0x00#8), (0x169, 0x00#8), (0x16A, 0x00#8), (0x16B, 0x00#8), (0x16C, 0x38#8), (0x16E, 0x42#8), (0x16F, 0x53#8)] ++
  [(0x17B, 0x00#8)]

/-- Every named register holds its reset value (R23, R410). -/
def State.HoldsResetValues (s : State) : Prop :=
  field (s.reg 0x145) 0 4 = 0#4 ∧ ∀ a v, (a, v) ∈ resetValues → s.reg a = v

/-- `s` with every internal field at the reset column of 10_state.md R46 to R54 (R410), its Register File and the number of resets
given; inputs, outputs, clock, oracle and parameters stay. -/
def State.poweredOn (s : State) (regFile : Memory) (resets : Nat) : State where
  inputs := s.inputs
  outputs := s.outputs
  regFile := regFile
  resets := resets
  opState := .off
  powerMode := 0
  tx := ⟨false, .ended, 0, 0#8, 0#16, false, false, 0#8, 0⟩
  lastTxSeq := 0#8
  rx := ⟨false, .sfdScan, 0, 0#8, 0#16, 0#8, List.replicate 13 0#8, false, 0#2, .pass, false⟩
  rxSeq := 0#8
  lastCrcOk := false
  aretActive := false
  csmaRetries := 0#3
  frameRetries := 0#4
  awaitingAck := false
  sendAck := false
  ccaStartEnergy := 0#8
  pending := ⟨none, none, none, none⟩
  now := s.now
  pinLevel := false
  env := s.env
  params := s.params

/-! ### Receptions -/

/-- `(S, listenState(S), its status code)` for the states in which a frame not awaited as an ACK is received
(43_receiver.md R241). -/
def listenRows : List (OpState × OpState × Byte) :=
  [(.rxOn, .rxOn, 0x06#8), (.busyRx, .rxOn, 0x06#8), (.rxAackOn, .rxAackOn, 0x16#8), (.busyRxAack, .rxAackOn, 0x16#8)]

/-- `(S, busyState(S), its status code)` for the same states (R241). -/
def busyRows : List (OpState × OpState × Byte) :=
  [(.rxOn, .busyRx, 0x01#8), (.busyRx, .busyRx, 0x01#8), (.rxAackOn, .busyRxAack, 0x11#8),
   (.busyRxAack, .busyRxAack, 0x11#8)]

/-- The cursor after a delivered byte and the RSSI draw it makes, nothing else changed (R244). -/
def State.heard (s : State) (c : RxCursor) : State := { s with rx := { s.rx with st := c }, env := s.env.afterRssi }

/-- The register map after a delivered byte: PHY_RSSI[4:0] a fresh sample (R244). -/
def State.heardRegs (s : State) : Nat → Byte :=
  fun a => if a = Addr.phyRssi then (s.reg a &&& 0xE0#8) ||| s.rssiDraw.setWidth 8 else s.reg a

/-- `setState(x)` on a state whose registers are elsewhere (41_commands.md R160), `p` the power index. -/
def State.entering (s : State) (x : OpState) (p : Nat) : State :=
  { s with opState := x, powerMode := p, outputs := s.outputs ++ [.powerMode p, .probe s.opState x] }

/-- The state after a payload byte at position `s.rx.pos + 1`, before what the address matcher does (43_receiver.md R248). -/
def State.payloadTaken (s : State) (b : Byte) : State :=
  { s with
    rx := { s.rx with
      pos := s.rx.pos + 1
      crc := crc16Update s.rx.crc (rev8 b)
      ackReq := if s.rx.pos = 0 then bit b 5 else s.rx.ackReq
      hdr := if s.rx.pos < 13 then s.rx.hdr.set s.rx.pos b else s.rx.hdr
      st := if s.rx.pos + 3 = s.rx.len.toNat then .crc1 else .inPacket }
    env := s.env.afterRssi }

/-- The register map after a payload byte: FB[p] and the RSSI sample (R244, R248). -/
def State.payloadRegs (s : State) (b : Byte) : Nat → Byte :=
  fun a => if a = 0x180 + (s.rx.pos + 1) then b else s.heardRegs a

/-- `st` is a state in which the next locked byte is payload of a frame that is not an expected ACK. -/
abbrev State.TakesPayload (s : State) : Prop :=
  s.rx.active = true ∧ s.rx.st = .inPacket ∧ s.awaitingAck = false

/-- The captured CRC bytes are those of the accumulator (R250). -/
def State.crcOk (s : State) (b : Byte) : Bool :=
  decide (s.rx.crc1 = rev8 (field s.rx.crc 8 8)) && decide (b = rev8 (field s.rx.crc 0 8))

/-- The state after the second CRC byte, before what the end of the frame does (R250, R251). -/
def State.frameTaken (s : State) (b : Byte) : State :=
  { s.heard .sfdScan with lastCrcOk := s.crcOk b }

/-- The register map after the second CRC byte: PHY_RSSI and, outside an ACK wait, FB[LEN] (R244, R250). -/
def State.frameRegs (s : State) (b : Byte) : Nat → Byte :=
  fun a =>
    if s.awaitingAck = false ∧ a = 0x180 + s.rx.len.toNat then b
    else if a = Addr.phyRssi then
      (s.reg a &&& 0x60#8) ||| s.rssiDraw.setWidth 8 ||| (if s.crcOk b then 0x80#8 else 0#8)
    else s.reg a

/-- A register map with the bits `m` of IRQ_STATUS set (60_exceptions.md R365). -/
def posted (f : Nat → Byte) (m : Byte) : Nat → Byte := fun a => if a = Addr.irqStatus then f a ||| m else f a

/-- The bytes of a frame on the Medium, its payload given (30_encoding.md R130, R139). -/
def airFrame (payload : List Byte) : List Byte :=
  [0x00#8, 0x00#8, 0x00#8, 0x00#8, 0x7A#8, BitVec.ofNat 8 (payload.length + 2)] ++ payload ++
    [rev8 (field (crcOf payload) 8 8), rev8 (field (crcOf payload) 0 8)]

end Sys2Proof.Machine
end

