-- ==== Sys2Proof/Certificates/Slice0/Obligations.lean ====
section
/-! DEFINITION. The statements for the provers. "Answers r u f" (Safety.lean) says that the input completes, that the next state is
`u` but for its Register File, and that every byte of that is `f`: so each such statement is completion, result and frame
in one. A diagnostic's label is the model's own (log 11): the statements say only that there is one. -/

open Sys2Proof Sys2Proof.Machine

/-! ### Encoding and the step -/

/-- Decoding the word of a well-formed input gives the input back, every operand at every value (30_encoding.md R110, R120). -/
def Obligations.DecodeOfEncodeIsIdentity : Prop :=
  ∀ i : Instr, i.wf = true → decode (encode i) = i ∧ decodeTableWord 20 (encode i).toNat = some i

/-- R114: two words that differ in ignored bits only decode to the same input. -/
def Obligations.IgnoredBitsHaveNoEffect : Prop :=
  ∀ w w' : InputWord, w &&& definedBits (field w 17 3) = w' &&& definedBits (field w 17 3) → decode w = decode w'

/-- R110: the decoder is total; every word is a well-formed input's, and of the row of opcode_table.json it decodes to. -/
def Obligations.DecodedWordMatchesItsTableRow : Prop :=
  ∀ w : InputWord, (decode w).wf = true ∧ w &&& (tableRow (decode w)).2 = (tableRow (decode w)).1

/-- Words written out from 30_encoding.md R110, R112, R113, R120 (95_test_vectors.md V-ENC-1 to V-ENC-8, V-MEM-6). -/
def Obligations.SampleWordsDecode : Prop :=
  decode 0x34208#20 = .cmdTrxOff ∧ decode 0x14F00#20 = .rd 0x14F#9 ∧ decode 0x14FFF#20 = .rd 0x14F#9 ∧
  decode 0x6007A#20 = .rxbU 0x7A#8 ∧ decode 0x6017A#20 = .rxbL 0x7A#8 ∧ decode 0xEFFFF#20 = .adv 0xFFFF#17 ∧
  decode 0xFFFFF#20 = .adv 0x1FFFF#17 ∧ decode 0x80003#20 = .fireAckTrigger ∧ decode 0xC0001#20 = .resetExplicit ∧
  decode 0x33903#20 = .trxrst ∧ decode 0x34F40#20 = .clrirq 0x40#8 ∧ decode 0x40000#20 = .pull ∧
  decode 0xA0001#20 = .pin1 ∧ decode 0x30005#20 = .wr 0x100#9 0x05#8 ∧ decode 0x3FF12#20 = .wrFb 0x7F#7 0x12#8

/-- R9: a step takes the next input offered, decodes it and processes it to completion; with none offered there is no step
(log 1, log 2). -/
def Obligations.StepRunsDecodedInput : Prop :=
  (∀ (s : State) (w : InputWord) (rest : List InputWord), s.inputs = w :: rest →
    step s = exec (decode w) { s with inputs := rest }) ∧
  (∀ s : State, s.inputs = [] → step s = .fault .noInput)

/-- R83: a host write word, decoded to its row of the opcode table and run, does what the map from address to handler gives
that address. -/
def Obligations.WriteRowsFollowTheWriteMap : Prop :=
  ∀ (a : RegAddr) (v : Byte) (s : State),
    exec (decode (writeWord a v)) s = .next
      (if a.toNat = 0x139 then
        if bit v 0 then s.explicitReset else s.writeTrxpr (field v 2 6) (bit v 1)
      else if a.toNat = 0x142 then s.writeTrxState (field v 0 5)
      else if a.toNat = 0x148 then s.writePhyCcCca (bit v 7) (field v 5 2) (field v 0 5)
      else if a.toNat = 0x14F then s.clearIrq v
      else if a.toNat = 0x14E then s.writeIrqMask v
      else if a.toNat = 0x141 ∨ a.toNat = 0x146 ∨ a.toNat = 0x147 ∨ a.toNat = 0x17B then s.writeReadOnly a.toNat
      else s.setReg a.toNat v)

/-! ### Host accesses and interrupts -/

/-- R82: a host read returns the byte and changes no state; the fields that read 0 are stored as 0 in every state that keeps
the register invariant. -/
def Obligations.HostReadReturnsRegister : Prop :=
  ∀ (a : RegAddr) (s : State),
    exec (.rd a) s = .next { s with outputs := s.outputs ++ [.readData (s.reg a.toNat)] } ∧
    (s.Mirrors → bit (s.reg 0x139) 0 = false ∧ bit (s.reg 0x148) 7 = false ∧ bit (s.reg 0x141) 5 = false ∧
      field (s.reg 0x146) 5 2 = 0#2)

/-- R83's plain storage (WR, WR_FB), the plain form of the PHY_CC_CCA write (R30), and R84: a write of a read-only register
stores nothing and outputs one diagnostic. -/
def Obligations.PlainAndReadOnlyWrites : Prop :=
  (∀ (a : RegAddr) (v : Byte) (s : State), plainWriteAddr a = true →
    Answers (exec (.wr a v) s) s (fun b => if b = a.toNat then v else s.reg b)) ∧
  (∀ (i : BitVec 7) (v : Byte) (s : State),
    Answers (exec (.wrFb i v) s) s (fun b => if b = 0x180 + i.toNat then v else s.reg b)) ∧
  (∀ (m : BitVec 2) (c : BitVec 5) (s : State),
    Answers (exec (.wrPhyCcCca m c) s) s
      (fun b => if b = 0x148 then (m.setWidth 8 <<< 5) ||| c.setWidth 8 else s.reg b)) ∧
  (∀ (i : Instr) (s : State), i ∈ [Instr.wrRoTrxStatus, .wrRoPhyRssi, .wrRoPhyEdLevel, .wrRoTstRxLength] →
    ∃ d, exec i s = .next { s with outputs := s.outputs ++ [.diag d] })

/-- R367 with R366: a write of IRQ_MASK stores the byte and outputs every line level that changed. -/
def Obligations.IrqMaskWriteMovesLines : Prop :=
  ∀ (v : Byte) (s : State),
    Answers (exec (.wrIrqMask v) s)
      { s with outputs := s.outputs ++
          lineChanges (s.reg Addr.irqStatus &&& s.reg Addr.irqMask) (s.reg Addr.irqStatus &&& v) }
      (fun a => if a = Addr.irqMask then v else s.reg a)

/-- R368: a write of IRQ_STATUS clears the bits set in the value and outputs every line level that changed; no other input but a
reset clears a bit of it. -/
def Obligations.IrqStatusClearedByHostOnly : Prop :=
  (∀ (v : Byte) (s : State),
    Answers (exec (.clrirq v) s)
      { s with outputs := s.outputs ++
          lineChanges (s.reg Addr.irqStatus &&& s.reg Addr.irqMask) (s.reg Addr.irqStatus &&& ~~~v &&& s.reg Addr.irqMask) }
      (fun a => if a = Addr.irqStatus then s.reg a &&& ~~~v else s.reg a)) ∧
  (∀ (i : Instr) (s t : State) (n : Nat), i.wf = true → exec i s = .next t →
    (∀ v, i ≠ .clrirq v) → i ≠ .trxrst → i ≠ .resetPor → i ≠ .resetExplicit →
    bit (s.reg Addr.irqStatus) n = true → bit (t.reg Addr.irqStatus) n = true)

/-- R365: a post sets the line's status bit whatever the mask holds, moves only that line, and changes nothing where the bit is
set already. -/
def Obligations.PostSetsStatusBit : Prop :=
  ∀ (s : State) (l : IrqLine),
    s.post l = { s with regFile := (s.post l).regFile, outputs := s.outputs ++ s.rise l } ∧
    (∀ a, (s.post l).reg a = if a = Addr.irqStatus then s.reg a ||| (1#8 <<< l.bitNo) else s.reg a) ∧
    (bit (s.reg Addr.irqStatus) l.bitNo = true →
      (s.post l).outputs = s.outputs ∧ ∀ a, (s.post l).reg a = s.reg a)

/-- R366, R370: after every step the outputs have reported the level each line has, if they had before it: no change of a line is
missed and none is made up. -/
def Obligations.OutputsReportLineLevels : Prop :=
  ∀ s t : State, s.LinesReported → step s = .next t → t.LinesReported

/-! ### Commands -/

/-- R165, R166, R168, R169, R171: the stopping mode commands, in every state outside OFF, SLEEP and TRANSITION, and in OFF the
two that act there (R161). -/
def Obligations.StoppingModeCommands : Prop :=
  (∀ (i : Instr) (cmd : Byte) (x : OpState) (code : Byte) (p : Nat) (s : State),
    (i, cmd, x, code, p) ∈
      [(Instr.cmdForceTrxOff, 0x03#8, OpState.trxOff, 0x08#8, 1), (.cmdForcePllOn, 0x04#8, .pllOn, 0x09#8, 2),
       (.cmdTrxOff, 0x08#8, .trxOff, 0x08#8, 1), (.cmdPllOn, 0x09#8, .pllOn, 0x09#8, 2),
       (.cmdTxAretOn, 0x19#8, .txAretOn, 0x19#8, 2)] →
    s.opState ≠ .off → s.opState ≠ .sleep → s.opState ≠ .transition →
    ∃ d d', Answers (exec i s) (s.stoppedInto x p d d') (withStatus (s.cmdStored cmd) code)) ∧
  (∀ (i : Instr) (cmd : Byte) (s : State),
    (i, cmd) ∈ [(Instr.cmdForceTrxOff, 0x03#8), (.cmdTrxOff, 0x08#8)] → s.opState = .off →
    Answers (exec i s) (s.entering .trxOff 1) (withStatus (s.cmdStored cmd) 0x08#8))

/-- R167, R170: the listening mode commands, in every state outside OFF, SLEEP and TRANSITION. -/
def Obligations.ListeningModeCommands : Prop :=
  ∀ (i : Instr) (cmd : Byte) (x : OpState) (code : Byte) (s : State),
    (i, cmd, x, code) ∈ [(Instr.cmdRxOn, 0x06#8, OpState.rxOn, 0x06#8), (.cmdRxAackOn, 0x16#8, .rxAackOn, 0x16#8)] →
    s.opState ≠ .off → s.opState ≠ .sleep → s.opState ≠ .transition →
    ∃ d d', Answers (exec i s) (s.listeningIn x d d') (withStatus (s.cmdStored cmd) code)

/-- R163 and R172: NOP stores its code and does nothing, with a diagnostic in SLEEP and TRANSITION only; every invalid code, in
every state, stores its code and outputs a diagnostic. -/
def Obligations.NopAndInvalidCommands : Prop :=
  (∀ s : State, s.opState ≠ .sleep → s.opState ≠ .transition → Answers (exec .cmdNop s) s (s.cmdStored 0x00#8)) ∧
  (∀ s : State, s.opState = .sleep ∨ s.opState = .transition →
    ∃ d, Answers (exec .cmdNop s) { s with outputs := s.outputs ++ [.diag d] } (s.cmdStored 0x00#8)) ∧
  (∀ (i : Instr) (c : Byte) (s : State), (i, c) ∈ invalidCommandRows →
    ∃ d, Answers (exec i s) { s with outputs := s.outputs ++ [.diag d] } (s.cmdStored c))

/-- R164: TX_START sends a frame in PLL_ON, begins a sequence in TX_ARET_ON, and is a diagnostic anywhere else. -/
def Obligations.TxStartCommand : Prop :=
  ∀ s : State, s.Sequenced →
    (s.opState = .pllOn → Answers (exec .cmdTxStart s) s.frameStarted (withStatus (s.cmdStored 0x02#8) 0x02#8)) ∧
    (s.opState = .txAretOn → Answers (exec .cmdTxStart s) s.aretBegun (withStatus (s.cmdStored 0x02#8) 0x12#8)) ∧
    (s.opState ≠ .pllOn → s.opState ≠ .txAretOn →
      ∃ d, Answers (exec .cmdTxStart s) { s with outputs := s.outputs ++ [.diag d] } (s.cmdStored 0x02#8))

/-- R173: every pair of an OperatingState and a command code does what its entry in the table says, and a manual CCA request what
the table's last column says. -/
def Obligations.CommandTableIsCovered : Prop :=
  ∀ s : State, s.Sequenced →
    (∀ c : BitVec 5,
      (commandCell s.opState c).Holds (exec (decode (commandWord c)) s) s (s.cmdStored (c.setWidth 8))) ∧
    (∀ (m : BitVec 2) (c : BitVec 5),
      if s.opState = .off ∨ s.opState = .sleep ∨ s.opState = .transition then
        ∃ d, Answers (exec (.cca m c) s) { s with outputs := s.outputs ++ [.diag d] } (s.ccaStored m c)
      else Answers (exec (.cca m c) s) s.ccaRequested (s.ccaRequestedRegs m c))

/-- R175: a manual CCA request stores mode and channel, clears CCA_DONE, draws the start sample and schedules the completion; in
OFF, SLEEP and TRANSITION it stores mode and channel and outputs a diagnostic. -/
def Obligations.ManualCcaRequest : Prop :=
  ∀ (m : BitVec 2) (c : BitVec 5) (s : State),
    (s.opState ≠ .off → s.opState ≠ .sleep → s.opState ≠ .transition →
      Answers (exec (.cca m c) s) s.ccaRequested (s.ccaRequestedRegs m c)) ∧
    (s.opState = .off ∨ s.opState = .sleep ∨ s.opState = .transition →
      ∃ d, Answers (exec (.cca m c) s) { s with outputs := s.outputs ++ [.diag d] } (s.ccaStored m c))

/-! ### The control line -/

/-- R181, R182, R183, R184: a rising edge, by the PIN input (R180) or by a write of TRXPR (R83), in every OperatingState. That the
write leaves `pinLevel` true is the model's reading of R54 (log 15, DEDUCED): R83's pseudocode writes the register only. -/
def Obligations.RisingEdge : Prop :=
  ∀ (i : Instr) (v : Byte) (s : State), s.Sequenced → RisingInput i s v →
    (s.opState = .trxOff →
      Answers (exec i s) { s.entering .sleep 0 with pinLevel := true }
        (withStatus (fun a => if a = Addr.phyEdLevel then 0xFF#8 else s.trxprStored v a) 0x0F#8)) ∧
    (s.opState = .pllOn →
      Answers (exec i s) { s.frameStarted with pinLevel := true } (withStatus (s.trxprStored v) 0x02#8)) ∧
    (s.opState = .txAretOn →
      Answers (exec i s) { s.aretBegun with pinLevel := true } (withStatus (s.trxprStored v) 0x12#8)) ∧
    (s.opState ≠ .trxOff → s.opState ≠ .pllOn → s.opState ≠ .txAretOn →
      ∃ d, Answers (exec i s) { s with pinLevel := true, outputs := s.outputs ++ [.diag d] } (s.trxprStored v))

/-- R185, R186: a falling edge wakes the block from SLEEP and has no effect but the new level anywhere else; and R180: a PIN
input that is no edge is a diagnostic only. A write of TRXPR that is no edge stores the byte (R83) and sets `pinLevel` to SLPTR:
the second is the model's reading of R54 (log 15, DEDUCED), and so is the level a falling write leaves. -/
def Obligations.FallingEdgeAndNoEdge : Prop :=
  (∀ (i : Instr) (v : Byte) (s : State), FallingInput i s v →
    (s.opState = .sleep →
      Answers (exec i s)
        { s.entering .transition 1 with
          pinLevel := false
          pending := { s.pending with wakeup := some (s.now + s.params.tWakeup * s.params.symbolCycles) } }
        (withStatus (s.trxprStored v) 0x1F#8)) ∧
    (s.opState ≠ .sleep → Answers (exec i s) { s with pinLevel := false } (s.trxprStored v))) ∧
  (∀ (i : Instr) (s : State), (i = .pin1 ∧ s.pinLevel = true) ∨ (i = .pin0 ∧ s.pinLevel = false) →
    ∃ d, exec i s = .next { s with outputs := s.outputs ++ [.diag d] }) ∧
  (∀ (u : BitVec 6) (b : Bool) (s : State), bit (s.reg Addr.trxpr) 1 = b →
    Answers (exec (.wrTrxprSlptr u b) s) { s with pinLevel := b }
      (s.trxprStored ((u.setWidth 8 <<< 2) ||| (if b then 0x02#8 else 0x00#8))))

/-- R187: the WAKEUP firing enters TRX_OFF and posts AWAKE in TRANSITION, and does nothing anywhere else. -/
def Obligations.WakeupFires : Prop :=
  ∀ s : State, s.pending.wakeup = some s.now →
    (s.opState = .transition →
      Answers (exec .fireWakeup s)
        { s.entering .trxOff 1 with
          pending := { s.pending with wakeup := none }
          outputs := s.outputs ++ [.powerMode 1, .probe .transition .trxOff] ++ s.rise .awake }
        (posted (withStatus s.reg 0x08#8) 0x80#8)) ∧
    (s.opState ≠ .transition →
      Answers (exec .fireWakeup s) { s with pending := { s.pending with wakeup := none } } s.reg)

/-! ### Reset -/

/-- R410: what a power-on reset leaves, whatever the state before it, and the initial state, whose one output is `power_mode(0)`.
Of PHY_TX_PWR only bits 3:0 have a reset value in the spec; the frame buffer and the unnamed addresses have none (log 7, log 8).
R410 gives the probe of a RESET POR input no place: that it comes after the stop and line outputs is the model's choice (log 14);
before or after `power_mode(0)` is left open. -/
def Obligations.PowerOnReset : Prop :=
  (∀ s : State, ∃ t os, exec .resetPor s = .next t ∧
    (os = [.probe s.opState .off, .powerMode 0] ∨ os = [.powerMode 0, .probe s.opState .off]) ∧
    t = { s.poweredOn t.regFile t.resets with
      outputs := s.outputs ++ (if s.tx.active then [.endTransmit] else []) ++ (if s.rx.active then [.endReceive] else []) ++
        lineChanges (s.reg Addr.irqStatus &&& s.reg Addr.irqMask) 0#8 ++ os } ∧
    t.HoldsResetValues) ∧
  State.reset = State.reset.poweredOn State.reset.regFile State.reset.resets ∧ State.reset.now = 0 ∧
    State.reset.outputs = [.powerMode 0] ∧ State.reset.HoldsResetValues

/-- R411: an explicit reset, by the RESET input or by TRXRST, leaves what a power-on reset leaves but for `setState(TRX_OFF)`.
The order of the outputs, stops and falling lines before those of `setState`, is the model's choice (log 14), and so is that the
frame buffer and the unnamed addresses, a draw in R410, read alike after either reset of one state (logs 7, 28). -/
def Obligations.ExplicitReset : Prop :=
  ∀ (i : Instr) (s : State), i = .resetExplicit ∨ i = .trxrst →
    ∃ t p, exec i s = .next t ∧ exec .resetPor s = .next p ∧
      t = { p with
        regFile := t.regFile
        opState := .trxOff
        powerMode := 1
        outputs := s.outputs ++ (if s.tx.active then [.endTransmit] else []) ++
          (if s.rx.active then [.endReceive] else []) ++
          lineChanges (s.reg Addr.irqStatus &&& s.reg Addr.irqMask) 0#8 ++ [.powerMode 1, .probe .off .trxOff] } ∧
      ∀ a, t.reg a = if a = Addr.trxStatus then 0x08#8 else p.reg a

/-! ### The Transmitter -/

/-- R203: the PREAMBLE, SFD and LENGTH pulls. -/
def Obligations.FramingPulls : Prop :=
  ∀ s : State, s.tx.active = true → s.tx.leadUntil ≤ s.now →
    (s.tx.st = .preamble →
      exec .pull s = .next { s with
        tx := { s.tx with cnt := s.tx.cnt + 1, st := if s.tx.cnt = 3 then .sfd else .preamble }
        outputs := s.outputs ++ [.txByte 0x00#8] }) ∧
    (s.tx.st = .sfd →
      exec .pull s = .next { s with tx := { s.tx with st := .length }, outputs := s.outputs ++ [.txByte 0x7A#8] }) ∧
    (s.tx.st = .length → ∀ len : Byte, len = (if s.tx.isAck then 5#8 else s.reg 0x180 &&& 0x7F#8) →
      exec .pull s = .next { s with
        tx := { s.tx with len := len, cnt := 0, st := if 3 ≤ len.toNat then .payload else .crcByte1 }
        outputs := s.outputs ++ [.txByte len] })

/-- R205: the PAYLOAD pull, of a data frame and of an auto-ACK. -/
def Obligations.PayloadPull : Prop :=
  ∀ (s : State) (p : Nat) (b : Byte), s.FramesInBounds → s.tx.active = true → s.tx.leadUntil ≤ s.now →
    s.tx.st = .payload → p = s.tx.cnt + 1 →
    b = (if s.tx.isAck then (if p = 1 then 0x02#8 else if p = 2 then 0x00#8 else s.tx.ackSeq) else s.reg (0x180 + p)) →
    exec .pull s = .next { s with
      tx := { s.tx with
        cnt := p
        crc := crc16Update s.tx.crc (rev8 b)
        ackReq := if s.tx.isAck = false ∧ p = 1 then bit b 5 else s.tx.ackReq
        st := if p + 2 = s.tx.len.toNat then .crcByte1 else .payload }
      lastTxSeq := if s.tx.isAck = false ∧ p = 3 then b else s.lastTxSeq
      outputs := s.outputs ++ [.txByte b] }

/-- R206: the CRC pulls send the accumulator high byte first, each byte bit-reversed; the second moves on to the end of the frame,
whose outputs come after the byte. -/
def Obligations.CrcPulls : Prop :=
  ∀ s : State, s.tx.active = true → s.tx.leadUntil ≤ s.now →
    (s.tx.st = .crcByte1 →
      exec .pull s = .next { s with
        tx := { s.tx with st := .crcByte2 }, outputs := s.outputs ++ [.txByte (rev8 (field s.tx.crc 8 8))] }) ∧
    (s.tx.st = .crcByte2 →
      ∃ t os, exec .pull s = .next t ∧ t.tx.st = .ended ∧ t.tx.active = false ∧
        t.outputs = s.outputs ++ [.txByte (rev8 (field s.tx.crc 0 8))] ++ os ∧ bytesSent os = [])

/-- R208: the end of an auto-ACK. -/
def Obligations.AckFrameEnds : Prop :=
  ∀ s : State, s.Sequenced → s.tx.active = true → s.tx.leadUntil ≤ s.now → s.tx.st = .crcByte2 → s.tx.isAck = true →
    Answers (exec .pull s)
      { s with
        tx := { s.tx with active := false, st := .ended }
        rx := { s.rx with active := true, st := .sfdScan }
        opState := .rxAackOn
        powerMode := 3
        outputs := s.outputs ++
          [.txByte (rev8 (field s.tx.crc 0 8)), .endTransmit, .beginReceive (Config.freq (field (s.reg Addr.phyCcCca) 0 5)),
           .powerMode 3, .probe .busyRxAack .rxAackOn] }
      (withStatus s.reg 0x16#8)

/-- R209: the end of an extended-mode data frame that requested an ACK. -/
def Obligations.AwaitingAckBegins : Prop :=
  ∀ s : State, s.Sequenced → s.tx.active = true → s.tx.leadUntil ≤ s.now → s.tx.st = .crcByte2 → s.tx.isAck = false →
    s.tx.ackReq = true → s.opState = .busyTxAret →
    Answers (exec .pull s)
      { s with
        tx := { s.tx with active := false, st := .ended }
        rx := { s.rx with active := true, st := .sfdScan, seqOk := false }
        awaitingAck := true
        pending := { s.pending with ackTimeout := some (s.now + s.params.tAckWait * s.params.symbolCycles) }
        outputs := s.outputs ++
          [.txByte (rev8 (field s.tx.crc 0 8)), .endTransmit, .beginReceive (Config.freq (field (s.reg Addr.phyCcCca) 0 5))] }
      s.reg

/-- R210: any other end of a frame: to PLL_ON in basic mode, to TX_ARET_ON in extended mode, TRAC_STATUS SUCCESS, TX_END posted. -/
def Obligations.DataFrameEnds : Prop :=
  ∀ (s : State) (x : OpState) (code : Byte), s.Sequenced → s.tx.active = true → s.tx.leadUntil ≤ s.now →
    s.tx.st = .crcByte2 → s.tx.isAck = false →
    (s.opState = .busyTx ∧ x = .pllOn ∧ code = 0x09#8) ∨
      (s.opState = .busyTxAret ∧ s.tx.ackReq = false ∧ x = .txAretOn ∧ code = 0x19#8) →
    Answers (exec .pull s)
      { s with
        tx := { s.tx with active := false, st := .ended }
        aretActive := false
        opState := x
        powerMode := 2
        outputs := s.outputs ++
          [.txByte (rev8 (field s.tx.crc 0 8)), .endTransmit, .powerMode 2, .probe s.opState x] ++ s.rise .txEnd }
      (fun a =>
        if a = Addr.trxState then s.reg a &&& 0x1F#8
        else if a = Addr.trxStatus then (s.reg a &&& 0xE0#8) ||| code
        else if a = Addr.irqStatus then s.reg a ||| 0x40#8
        else s.reg a)

/-- R201: a pull before the lead time has passed is not admitted; with the Transmitter stopped it outputs 0x00 and a diagnostic
and does nothing else. -/
def Obligations.PullAdmission : Prop :=
  ∀ s : State,
    (s.tx.active = true → s.now < s.tx.leadUntil → exec .pull s = .fault .pullBeforeLead) ∧
    (s.tx.active = true → s.tx.leadUntil ≤ s.now → ∃ t, exec .pull s = .next t) ∧
    (s.tx.active = false → ∃ d, exec .pull s = .next { s with outputs := s.outputs ++ [.txByte 0x00#8, .diag d] })

/-- R211 (an inference the spec marks as its own, from R203 to R206) with R130, R138 and R139: from a started frame, data or
auto-ACK, exactly `PREAMBLE_LEN + 2 + npay + 2` pulls put on the Medium the preamble, the SFD, the length, the payload (out of the
frame buffer, or 0x02, 0x00, `tx.ackSeq`) and its CRC; after any fewer pulls the Transmitter is still active. A basic data frame
then ends in PLL_ON with TX_END posted. -/
def Obligations.FrameOnTheMedium : Prop :=
  ∀ (s : State) (len : Byte) (payload : List Byte),
    s.tx.active = true → s.tx.st = .preamble → s.tx.cnt = 0 → s.tx.crc = 0#16 → s.tx.leadUntil ≤ s.now →
    len = (if s.tx.isAck then 5#8 else s.reg 0x180 &&& 0x7F#8) →
    payload = (if s.tx.isAck then [0x02#8, 0x00#8, s.tx.ackSeq]
      else (List.range (len.toNat - 2)).map (fun k => s.reg (0x180 + (k + 1)))) →
    (∃ t, runInputs (List.replicate (8 + payload.length) .pull) s = some t ∧
      bytesSent (t.outputs.drop s.outputs.length) =
        [0x00#8, 0x00#8, 0x00#8, 0x00#8, 0x7A#8, len] ++ payload ++
          [rev8 (field (crcOf payload) 8 8), rev8 (field (crcOf payload) 0 8)] ∧
      t.tx.active = false ∧ t.tx.st = .ended ∧
      (s.tx.isAck = false → s.opState = .busyTx → t.opState = .pllOn ∧ bit (t.reg Addr.irqStatus) 6 = true)) ∧
    (∀ k, k < 8 + payload.length →
      ∃ t, runInputs (List.replicate k .pull) s = some t ∧ t.tx.active = true ∧ t.opState = s.opState)

/-- R140 (an inference the spec marks as its own, from R139): folding the CRC over the payload and two more bytes, each
bit-reversed, gives 0 exactly when the two are the payload's CRC bytes: testing the residue and comparing the bytes accept the
same frames. -/
def Obligations.CrcResidueIsZero : Prop :=
  ∀ (payload : List Byte) (c1 c2 : Byte),
    (payload ++ [c1, c2]).foldl (fun c b => crc16Update c (rev8 b)) 0#16 = 0#16 ↔
      c1 = rev8 (field (crcOf payload) 8 8) ∧ c2 = rev8 (field (crcOf payload) 0 8)

/-! ### The Receiver -/

/-- R242, R244: with the Receiver stopped a delivery has no effect; with it started every delivered byte, locked or not, writes a
fresh sample to PHY_RSSI[4:0] and makes that one draw, in every cursor state. -/
def Obligations.DeliveriesSampleRssi : Prop :=
  ∀ (i : Instr) (b : Byte) (s : State), i = .rxbL b ∨ i = .rxbU b →
    (s.rx.active = false → exec i s = .next s) ∧
    (s.rx.active = true →
      ∃ t, exec i s = .next t ∧ field (t.reg Addr.phyRssi) 0 5 = s.rssiDraw ∧ t.env = s.env.afterRssi)

/-- R243: an unlocked byte returns the Receiver to SFD_SCAN; mid-frame it also returns S to the listen state, or in an ACK wait
makes ACK_TIMEOUT due now. -/
def Obligations.LockLoss : Prop :=
  ∀ (b : Byte) (s : State), s.rx.active = true →
    (s.rx.st = .sfdScan ∨ s.rx.st = .sfdMatched1 → Answers (exec (.rxbU b) s) (s.heard .sfdScan) s.heardRegs) ∧
    (s.rx.st = .sfdMatched2 ∨ s.rx.st = .inPacket ∨ s.rx.st = .crc1 ∨ s.rx.st = .crc2 →
      (s.awaitingAck = true →
        Answers (exec (.rxbU b) s)
          { s.heard .sfdScan with pending := { s.pending with ackTimeout := some s.now } } s.heardRegs) ∧
      (∀ x code, s.awaitingAck = false → (s.opState, x, code) ∈ listenRows →
        Answers (exec (.rxbU b) s) ((s.heard .sfdScan).entering x 3) (withStatus s.heardRegs code)))

/-- R245: the scan for the last preamble byte 0x00 and the SFD; at a match, `sfdMatch()` runs (its effect is SfdMatch's). -/
def Obligations.SfdScan : Prop :=
  ∀ (b : Byte) (s : State), s.rx.active = true →
    (s.rx.st = .sfdScan →
      Answers (exec (.rxbL b) s) (s.heard (if b = 0x00#8 then .sfdMatched1 else .sfdScan)) s.heardRegs) ∧
    (s.rx.st = .sfdMatched1 → b ≠ 0x7A#8 →
      Answers (exec (.rxbL b) s) (s.heard (if b = 0x00#8 then .sfdMatched1 else .sfdScan)) s.heardRegs) ∧
    (s.rx.st = .sfdMatched1 → b = 0x7A#8 → exec (.rxbL b) s = .next s.sampleRssi.sfdMatch)

/-- R246: the SFD match, suppressed or not, in and outside an ACK wait. -/
def Obligations.SfdMatch : Prop :=
  ∀ (s : State) (suppressed : Bool), s.rx.active = true → s.rx.st = .sfdMatched1 →
    suppressed = (bit (s.reg Addr.rxSyn) 7 ||
      (decide (field (s.reg Addr.rxSyn) 0 4 ≠ 0#4) && Config.rxThreshold (field (s.reg Addr.rxSyn) 0 4) s.rssiDraw)) →
    (suppressed = true → Answers (exec (.rxbL 0x7A#8) s) (s.heard .sfdScan) s.heardRegs) ∧
    (suppressed = false → ∀ u f,
      u = { s with
        env := s.env.afterRssi
        rx := { s.rx with
          st := .sfdMatched2, pos := 0, len := 0#8, crc := 0#16, hdr := List.replicate 13 0#8, ackReq := false, dstMode := 0#2,
          filter := .pass, seqOk := false } } →
      f = (fun a => if a = Addr.phyEdLevel then 0xFF#8 else s.heardRegs a) →
      (s.awaitingAck = true → Answers (exec (.rxbL 0x7A#8) s) u f) ∧
      (∀ x code, s.awaitingAck = false → (s.opState, x, code) ∈ busyRows →
        Answers (exec (.rxbL 0x7A#8) s)
          { u.entering x 3 with outputs := s.outputs ++ [.powerMode 3, .probe s.opState x] ++ s.rise .rxStart }
          (posted (withStatus f code) 0x04#8)))

/-- R247: the length byte; lengths below 2 are dropped. -/
def Obligations.LengthByte : Prop :=
  ∀ (b len : Byte) (s : State), s.rx.active = true → s.rx.st = .sfdMatched2 → len = b &&& 0x7F#8 →
    (len.toNat < 2 → s.awaitingAck = true → Answers (exec (.rxbL b) s) (s.heard .sfdScan) s.heardRegs) ∧
    (∀ x code, len.toNat < 2 → s.awaitingAck = false → (s.opState, x, code) ∈ listenRows →
      Answers (exec (.rxbL b) s) ((s.heard .sfdScan).entering x 3) (withStatus s.heardRegs code)) ∧
    (2 ≤ len.toNat →
      Answers (exec (.rxbL b) s)
        { s with
          env := s.env.afterRssi, rx := { s.rx with len := len, st := if len.toNat = 2 then .crc1 else .inPacket } }
        (fun a => if s.awaitingAck = false ∧ (a = 0x180 ∨ a = 0x17B) then len else s.heardRegs a))

/-- R248, R290: a payload byte where the address matcher has no check to make: at the other positions, and at every position of a
frame already rejected. -/
def Obligations.PayloadByteTaken : Prop :=
  ∀ (b : Byte) (s : State), s.FramesInBounds → s.TakesPayload →
    s.rx.filter = .reject ∨ s.rx.pos + 1 ∉ [1, 2, 3, 5, 7, 13] →
    Answers (exec (.rxbL b) s) (s.payloadTaken b) (s.payloadRegs b)

/-- R291, R292, R293: positions 1, 2 and 3 of a frame not rejected: the frame type by RESERVED_FT_POLICY, the destination
addressing mode, the sequence number. -/
def Obligations.FilterReadsFrameControl : Prop :=
  ∀ (b : Byte) (s u : State), s.FramesInBounds → s.TakesPayload → s.rx.filter ≠ .reject → u = s.payloadTaken b →
    (s.rx.pos = 0 →
      Answers (exec (.rxbL b) s)
        { u with rx := { u.rx with filter :=
            if (field b 0 3).toNat < 4 then s.rx.filter
            else if s.params.reservedFtPolicy = .reject then .reject else .exempt } }
        (s.payloadRegs b)) ∧
    (s.rx.pos = 1 →
      Answers (exec (.rxbL b) s)
        { u with rx := { u.rx with dstMode := if field b 2 2 = 1#2 then 0#2 else field b 2 2 } } (s.payloadRegs b)) ∧
    (s.rx.pos = 2 → Answers (exec (.rxbL b) s) { u with rxSeq := b, sendAck := false } (s.payloadRegs b))

/-- R294, R295, R296: the destination PAN ID at position 5, the short address at 7, the extended address at 13: each is compared with
the configured value and the broadcast value, where the addressing mode asks for it and the verdict is still PASS. -/
def Obligations.FilterChecksDestination : Prop :=
  ∀ (b : Byte) (s u rejected : State) (h : Nat → Byte), s.FramesInBounds → s.TakesPayload → s.rx.filter ≠ .reject →
    u = s.payloadTaken b → rejected = { u with rx := { u.rx with filter := .reject } } →
    h = (fun p => s.rx.hdr.getD (p - 1) 0#8) →
    (s.rx.pos = 4 →
      Answers (exec (.rxbL b) s)
        (if s.rx.filter = .pass ∧ (s.rx.dstMode = 2#2 ∨ s.rx.dstMode = 3#2) ∧
            ¬ (h 4 = s.reg 0x162 ∧ b = s.reg 0x163) ∧ ¬ (h 4 = 0xFF#8 ∧ b = 0xFF#8) then rejected else u)
        (s.payloadRegs b)) ∧
    (s.rx.pos = 6 →
      if s.rx.filter = .pass ∧ s.rx.dstMode = 2#2 then
        if (h 6 = s.reg 0x160 ∧ b = s.reg 0x161) ∨ (h 6 = 0xFF#8 ∧ b = 0xFF#8) then
          Answers (exec (.rxbL b) s) { u with outputs := s.outputs ++ s.rise .ami } (posted (s.payloadRegs b) 0x20#8)
        else Answers (exec (.rxbL b) s) rejected (s.payloadRegs b)
      else Answers (exec (.rxbL b) s) u (s.payloadRegs b)) ∧
    (s.rx.pos = 12 →
      if s.rx.filter = .pass ∧ s.rx.dstMode = 3#2 then
        if [h 6, h 7, h 8, h 9, h 10, h 11, h 12, b] = (List.range 8).map (fun i => s.reg (0x164 + i)) ∨
            le64 [h 6, h 7, h 8, h 9, h 10, h 11, h 12, b] = s.params.extBroadcast then
          Answers (exec (.rxbL b) s) { u with outputs := s.outputs ++ s.rise .ami } (posted (s.payloadRegs b) 0x20#8)
        else Answers (exec (.rxbL b) s) rejected (s.payloadRegs b)
      else Answers (exec (.rxbL b) s) u (s.payloadRegs b))

/-- R256, R257: a payload byte during an ACK wait: no frame buffer, no address matching; at position 3 the sequence number is
compared, a mismatch ends the frame and makes ACK_TIMEOUT due now. -/
def Obligations.PayloadByteInAckWait : Prop :=
  ∀ (b : Byte) (s u : State), s.rx.active = true → s.rx.st = .inPacket → s.awaitingAck = true →
    u = { s with
      env := s.env.afterRssi
      rx := { s.rx with
        pos := s.rx.pos + 1, crc := crc16Update s.rx.crc (rev8 b),
        st := if s.rx.pos + 3 = s.rx.len.toNat then .crc1 else .inPacket } } →
    (s.rx.pos ≠ 2 → Answers (exec (.rxbL b) s) u s.heardRegs) ∧
    (s.rx.pos = 2 → b = s.lastTxSeq → Answers (exec (.rxbL b) s) { u with rx := { u.rx with seqOk := true } } s.heardRegs) ∧
    (s.rx.pos = 2 → b ≠ s.lastTxSeq →
      Answers (exec (.rxbL b) s)
        { u with rx := { u.rx with st := .sfdScan }, pending := { s.pending with ackTimeout := some s.now } } s.heardRegs)

/-- R249, R250: the first CRC byte is captured; the second decides `lastCRCok` and PHY_RSSI.RX_CRC_VALID, whatever the end of the
frame then does, and the cursor is back in SFD_SCAN. -/
def Obligations.CrcBytesTaken : Prop :=
  ∀ (b : Byte) (s : State), s.FramesInBounds → s.rx.active = true →
    (s.rx.st = .crc1 →
      Answers (exec (.rxbL b) s)
        { s with env := s.env.afterRssi, rx := { s.rx with crc1 := b, st := .crc2 } }
        (fun a => if s.awaitingAck = false ∧ a = 0x180 + (s.rx.len.toNat - 1) then b else s.heardRegs a)) ∧
    (s.rx.st = .crc2 →
      ∃ t, exec (.rxbL b) s = .next t ∧ t.rx.st = .sfdScan ∧
        (t.lastCrcOk = true ↔ s.rx.crc1 = rev8 (field s.rx.crc 8 8) ∧ b = rev8 (field s.rx.crc 0 8)) ∧
        bit (t.reg Addr.phyRssi) 7 = t.lastCrcOk ∧
        ∀ i : BitVec 7, t.reg (0x180 + i.toNat) =
          if s.awaitingAck = false ∧ i.toNat = s.rx.len.toNat then b else s.reg (0x180 + i.toNat))

/-- R251, R252, R253, R254: the end of a frame that is not an expected ACK: a rejected one returns to the listen state; an accepted
one posts RX_END and, where an ACK is wanted, sets `sendAck` and schedules ACK_TRIGGER, else returns to the listen state. -/
def Obligations.ReceptionEnds : Prop :=
  ∀ (b : Byte) (s u : State) (x : OpState) (code : Byte) (wanted : Bool), s.FramesInBounds → s.rx.active = true →
    s.rx.st = .crc2 → s.awaitingAck = false → (s.opState, x, code) ∈ listenRows → u = s.frameTaken b →
    wanted = (s.crcOk b && s.rx.ackReq && decide (s.opState = .busyRxAack) && !bit (s.reg Addr.csmaSeed1) 4) →
    (s.rx.filter = .reject → Answers (exec (.rxbL b) s) (u.entering x 3) (withStatus (s.frameRegs b) code)) ∧
    (s.rx.filter ≠ .reject → wanted = false →
      Answers (exec (.rxbL b) s)
        { u.entering x 3 with outputs := s.outputs ++ s.rise .rxEnd ++ [.powerMode 3, .probe s.opState x] }
        (posted (withStatus (s.frameRegs b) code) 0x08#8)) ∧
    (s.rx.filter ≠ .reject → wanted = true →
      Answers (exec (.rxbL b) s)
        { u with
          sendAck := true
          outputs := s.outputs ++ s.rise .rxEnd
          pending := { s.pending with ackTrigger := some (s.now +
            (if bit (s.reg Addr.xahCtrl1) 2 then s.params.tAckTurnFast else s.params.tAckTurn) * s.params.symbolCycles) } }
        (posted (s.frameRegs b) 0x08#8))

/-- R258: the end of a candidate ACK: with the sequence number and the CRC right the sequence ends in TX_ARET_ON with TRAC_STATUS
SUCCESS and TX_END; else ACK_TIMEOUT is due now. -/
def Obligations.CandidateAckEnds : Prop :=
  ∀ (b : Byte) (s u : State), s.rx.active = true → s.rx.st = .crc2 → s.awaitingAck = true → u = s.frameTaken b →
    (s.rx.seqOk = true → s.crcOk b = true →
      Answers (exec (.rxbL b) s)
        { u with
          rx := { u.rx with active := false }
          awaitingAck := false
          aretActive := false
          opState := .txAretOn
          powerMode := 2
          pending := { s.pending with ackTimeout := none }
          outputs := s.outputs ++ [.endReceive, .powerMode 2, .probe s.opState .txAretOn] ++ s.rise .txEnd }
        (fun a =>
          if a = Addr.trxState then s.reg a &&& 0x1F#8
          else if a = Addr.trxStatus then (s.reg a &&& 0xE0#8) ||| 0x19#8
          else if a = Addr.irqStatus then s.reg a ||| 0x40#8
          else s.frameRegs b a)) ∧
    (s.rx.seqOk = false ∨ s.crcOk b = false →
      Answers (exec (.rxbL b) s) { u with pending := { s.pending with ackTimeout := some s.now } } (s.frameRegs b))

/-- R255: the ACK_TRIGGER firing. -/
def Obligations.AckTriggerFires : Prop :=
  ∀ s u : State, s.Sequenced → s.pending.ackTrigger = some s.now →
    u = { s with pending := { s.pending with ackTrigger := none } } →
    (s.sendAck = true → s.opState = .busyRxAack →
      ∃ d, Answers (exec .fireAckTrigger s)
        { u with
          sendAck := false
          rx := { s.rx with active := false, st := if s.rx.active then .sfdScan else s.rx.st }
          tx := s.freshTx true
          outputs := s.outputs ++ [if s.rx.active then .endReceive else .diag d, s.beginOutput] }
        s.reg) ∧
    (s.sendAck = false → s.opState = .busyRxAack → s.rx.st = .sfdScan ∨ s.rx.st = .sfdMatched1 →
      Answers (exec .fireAckTrigger s) (u.entering .rxAackOn 3) (withStatus s.reg 0x16#8)) ∧
    (s.opState ≠ .busyRxAack ∨
        (s.sendAck = false ∧ (s.rx.st = .sfdMatched2 ∨ s.rx.st = .inPacket ∨ s.rx.st = .crc1 ∨ s.rx.st = .crc2)) →
      Answers (exec .fireAckTrigger s) u s.reg)

/-- R250 with R130 and R133: a frame as R130 gives it, delivered locked and whole to a Receiver listening in RX_ON, is received
intact, whatever its payload: the CRC is valid, the frame buffer holds the length, the payload and the CRC bytes, and S is
RX_ON again. -/
def Obligations.SentFrameIsReceivedIntact : Prop :=
  ∀ (s : State) (payload : List Byte), s.rx.active = true → s.rx.st = .sfdScan → s.awaitingAck = false → s.opState = .rxOn →
    s.reg Addr.rxSyn = 0x00#8 → payload.length ≤ 125 →
    ∃ t, runInputs ((airFrame payload).map .rxbL) s = some t ∧ t.lastCrcOk = true ∧ bit (t.reg Addr.phyRssi) 7 = true ∧
      t.rx.active = true ∧ t.rx.st = .sfdScan ∧ t.opState = .rxOn ∧
      t.reg Addr.tstRxLength = BitVec.ofNat 8 (payload.length + 2) ∧
      (∀ k b, ((airFrame payload).drop 5)[k]? = some b → t.reg (0x180 + k) = b) ∧
      (∀ k, payload.length + 2 < k → k < 128 → t.reg (0x180 + k) = s.reg (0x180 + k))

/-! ### CCA, CSMA and ACK retry -/

/-- R321, R322, R323, R324: the CCA verdict. -/
def Obligations.CcaVerdict : Prop :=
  ∀ (s : State) (start cur : Byte) (carrier energy : Prop),
    (carrier ↔ s.opState = .busyRx ∨ s.opState = .busyRxAack) →
    (energy ↔ 2 * (field (s.reg Addr.ccaThres) 0 4).toNat < max start.toNat cur.toNat) →
    (field (s.reg Addr.phyCcCca) 5 2 = 0#2 → (s.ccaBusy start cur = true ↔ carrier ∨ energy)) ∧
    (field (s.reg Addr.phyCcCca) 5 2 = 1#2 → (s.ccaBusy start cur = true ↔ energy)) ∧
    (field (s.reg Addr.phyCcCca) 5 2 = 2#2 → (s.ccaBusy start cur = true ↔ carrier)) ∧
    (field (s.reg Addr.phyCcCca) 5 2 = 3#2 → (s.ccaBusy start cur = true ↔ carrier ∧ energy)) ∧
    (maxEnergy start cur).toNat = max start.toNat cur.toNat

/-- R326: the backoff is `BACKOFF_FIXED` with MAX_BE unset, `2^MIN_BE` with an empty range, and else a draw in
`[2^MIN_BE, 2^MAX_BE)`; an answer the Environment gives in that range is taken as it is. -/
def Obligations.BackoffInRange : Prop :=
  ∀ (s : State) (lo hi : BitVec 4), lo = field (s.reg Addr.csmaBe) 0 4 → hi = field (s.reg Addr.csmaBe) 4 4 →
    (hi = 0#4 → s.backoff = s.params.backoffFixed) ∧
    (hi ≠ 0#4 → hi.toNat ≤ lo.toNat → s.backoff = 2 ^ lo.toNat) ∧
    (hi ≠ 0#4 → lo.toNat < hi.toNat →
      2 ^ lo.toNat ≤ s.backoff ∧ s.backoff < 2 ^ hi.toNat ∧
      ∀ d ds, s.env.backoff = d :: ds → 2 ^ lo.toNat ≤ d → d < 2 ^ hi.toNat → s.backoff = d)

/-- R330: which CCA a CCA_DELAY firing completes, and the completion of an ARET CCA, its verdict `s.ccaBusy` of the start sample
and a new one; `manualCcaComplete()` is ManualCcaCompletes'. -/
def Obligations.AretCcaCompletes : Prop :=
  (∀ s : State, s.pending.ccaDelay = some s.now → ¬ (s.aretActive = true ∧ s.awaitingAck = false ∧ s.tx.active = false) →
    exec .fireCcaDelay s = .next (State.manualCcaComplete { s with pending := { s.pending with ccaDelay := none } })) ∧
  ∀ s s1 s2 : State, s.Sequenced → s.pending.ccaDelay = some s.now → s.aretActive = true → s.awaitingAck = false →
    s.tx.active = false →
    s1 = { s with pending := { s.pending with ccaDelay := none }, env := s.env.afterEnergy } →
    s2 = { s1 with env := s1.env.afterEnergy } →
    (s.ccaBusy s.ccaStartEnergy s.energyDraw = false →
      Answers (exec .fireCcaDelay s) { s1 with tx := s.freshTx false, outputs := s.outputs ++ [s.beginOutput] } s.reg) ∧
    (s.ccaBusy s.ccaStartEnergy s.energyDraw = true → 0 < s.csmaRetries.toNat →
      Answers (exec .fireCcaDelay s)
        { s1 with
          csmaRetries := s.csmaRetries - 1#3
          ccaStartEnergy := s1.energyDraw
          env := if s.backoffDraws then s2.env.afterBackoff else s2.env
          pending := { s.pending with ccaDelay := some (s.now + s2.backoff * s.params.symbolCycles) } }
        s.reg) ∧
    (s.ccaBusy s.ccaStartEnergy s.energyDraw = true → s.csmaRetries = 0#3 →
      Answers (exec .fireCcaDelay s) s1.aretFailed (s.aretEndRegs 0x03#8))

/-- R331: the ACK_TIMEOUT firing. -/
def Obligations.AckTimeoutFires : Prop :=
  ∀ s u : State, s.Sequenced → s.pending.ackTimeout = some s.now →
    u = { s with pending := { s.pending with ackTimeout := none } } →
    (s.awaitingAck = false → Answers (exec .fireAckTimeout s) u s.reg) ∧
    (s.awaitingAck = true → ∃ d : Diag, ∀ v : State,
      v = { u with
        awaitingAck := false
        rx := { s.rx with active := false, st := if s.rx.active then .sfdScan else s.rx.st }
        outputs := s.outputs ++ [if s.rx.active then .endReceive else .diag d] } →
      (0 < s.frameRetries.toNat →
        Answers (exec .fireAckTimeout s) (State.csmaBegun { v with frameRetries := s.frameRetries - 1#4 }) s.reg) ∧
      (s.frameRetries = 0#4 → Answers (exec .fireAckTimeout s) v.aretFailed (s.aretEndRegs 0x05#8)))

/-- R334, R330: the CCA_DELAY firing that completes a manual CCA. -/
def Obligations.ManualCcaCompletes : Prop :=
  ∀ s : State, s.pending.ccaDelay = some s.now → s.aretActive = false ∨ s.awaitingAck = true ∨ s.tx.active = true →
    Answers (exec .fireCcaDelay s)
      { s with
        pending := { s.pending with ccaDelay := none }
        env := s.env.afterEnergy
        outputs := s.outputs ++ s.rise .ccaEdDone }
      (fun a =>
        if a = Addr.trxStatus then
          (s.reg a &&& 0x3F#8) ||| (if s.ccaBusy s.ccaStartEnergy s.energyDraw then 0xC0#8 else 0x80#8)
        else if a = Addr.phyEdLevel then BitVec.ofNat 8 (max s.ccaStartEnergy.toNat s.energyDraw.toNat)
        else if a = Addr.irqStatus then s.reg a ||| 0x10#8
        else s.reg a)

/-! ### The clock, admission, invariants -/

/-- R383: an advance is admitted when it passes no pending event and then moves `now` alone; no other input moves `now`. -/
def Obligations.ClockAdvance : Prop :=
  (∀ (n : BitVec 17) (s : State),
    ((∀ e due, s.pending.get e = some due → s.now + n.toNat ≤ due) → exec (.adv n) s = .next { s with now := s.now + n.toNat }) ∧
    ((∃ e due, s.pending.get e = some due ∧ due < s.now + n.toNat) → exec (.adv n) s = .fault .advancePastEvent)) ∧
  (∀ (i : Instr) (s t : State), exec i s = .next t → (∀ n, i ≠ .adv n) → t.now = s.now)

/-- R360, R384 and R11: an input completes exactly when it is admitted; a firing that is not due stops by name, and nothing is
refused. -/
def Obligations.AdmittedInputsComplete : Prop :=
  ∀ (i : Instr) (s : State),
    (Admitted i s ↔ ∃ t, exec i s = .next t) ∧ (∀ r, exec i s ≠ .refused r) ∧
    (∀ e, (i, e) ∈ [(Instr.fireCcaDelay, Event.ccaDelay), (.fireWakeup, .wakeup), (.fireAckTimeout, .ackTimeout),
        (.fireAckTrigger, .ackTrigger)] →
      s.pending.get e ≠ some s.now → exec i s = .fault (.fireNotDue e))

/-- The Register File stays in its canonical form: equal Register Files after equal draws are equal lists (log 7). -/
def Obligations.RegisterFileStaysCanonical : Prop :=
  ∀ s t : State, s.MemoryCanonical → step s = .next t → t.MemoryCanonical

/-- R25, R46, R54, R57 and the reserved bits of R24, R28, R30, R32: what mirrors internal state keeps mirroring it; and R48: the
codes of TRAC_STATUS stay legal. -/
def Obligations.MirrorsHold : Prop :=
  ∀ s t : State, step s = .next t → (s.Mirrors → t.Mirrors) ∧ (s.TracLegal → t.TracLegal)

/-- R59: Transmitter and Receiver are never both active, which OperatingState each may run in, what the sequence flags imply,
with `sendAck` implying BUSY_RX_AACK until a step ends a frame received in the turnaround (log 12); and the cursors stay inside the
frame (R248, R211). -/
def Obligations.SequencingHolds : Prop :=
  ∀ s t : State, s.Sequenced → s.FramesInBounds → step s = .next t →
    t.Sequenced ∧ t.FramesInBounds ∧ (s.SendAckBusy → t.SendAckBusy ∨ s.EndsTurnaroundFrame t)

/-- R383, R384: no pending event is ever passed: each stays due at `now` or later. -/
def Obligations.EventsStayAhead : Prop :=
  ∀ s t : State, s.EventsAhead → step s = .next t → t.EventsAhead

/-- The state after reset meets every invariant above. -/
def Obligations.ResetMeetsInvariants : Prop :=
  State.reset.MemoryCanonical ∧ State.reset.Mirrors ∧ State.reset.TracLegal ∧ State.reset.Sequenced ∧
    State.reset.SendAckBusy ∧ State.reset.FramesInBounds ∧ State.reset.EventsAhead ∧ State.reset.LinesReported

/-- R12: no output feeds back into the block's state: with other outputs made before it, a step does the same and makes the same
outputs. -/
def Obligations.OutputsDoNotFeedBack : Prop :=
  ∀ (s : State) (before : List Output),
    (∀ t, step s = .next t → ∃ new, t.outputs = s.outputs ++ new ∧
      step { s with outputs := before } = .next { t with outputs := before ++ new }) ∧
    (∀ f, step s = .fault f → step { s with outputs := before } = .fault f)

/-- R387: SLEEP is left only by a falling control line, through TRANSITION, or by a reset. -/
def Obligations.OnlyWakingLeavesSleep : Prop :=
  ∀ (i : Instr) (s t : State), s.Sequenced → i.wf = true → s.opState = .sleep → exec i s = .next t → t.opState ≠ .sleep →
    (t.opState = .transition ∧ (i = .pin0 ∨ ∃ u, i = .wrTrxprSlptr u false)) ∨
    i = .trxrst ∨ i = .resetPor ∨ i = .resetExplicit
end

