-- ==== Sys2Proof/Laws/Bits.lean ====
section
/-! SUPPORT. What the bit-field primitives of Machine/Bits.lean say of each other: reading a field of a concatenation. -/

namespace Sys2Proof

theorem bit_cat {m n : Nat} (k : Nat) (hi : BitVec m) (lo : BitVec n) (i : Nat) :
    bit (cat k hi lo) i = (decide (i < k) && if i < n then bit lo i else bit hi (i - n)) := by
  simp [bit, cat, BitVec.getLsbD_append]

theorem bit_field {w : Nat} (v : BitVec w) (lo n i : Nat) :
    bit (field v lo n) i = (decide (i < n) && bit v (lo + i)) := by
  simp [bit, field]

theorem ext_bit {w : Nat} {x y : BitVec w} (h : ∀ i, i < w → bit x i = bit y i) : x = y := by
  apply BitVec.eq_of_getLsbD_eq
  intro i hi
  exact h i hi

/-- A field that lies in the low part. -/
theorem field_cat_low {m n : Nat} (k : Nat) (hi : BitVec m) (lo : BitVec n) (s j : Nat) (h : s + j ≤ n) (hk : n ≤ k) :
    field (cat k hi lo) s j = field lo s j := by
  apply ext_bit
  intro i hi'
  have h1 : s + i < n := by omega
  have h2 : s + i < k := by omega
  simp [bit_field, bit_cat, h1, h2]

/-- A field that lies in the high part. -/
theorem field_cat_high {m n : Nat} (k : Nat) (hi : BitVec m) (lo : BitVec n) (s j : Nat) (h : n ≤ s) (hk : s + j ≤ k) :
    field (cat k hi lo) s j = field hi (s - n) j := by
  apply ext_bit
  intro i hi'
  have h1 : ¬ s + i < n := by omega
  have h2 : s + i < k := by omega
  have h3 : s + i - n = s - n + i := by omega
  simp [bit_field, bit_cat, h1, h2, h3]

@[simp] theorem field_zero_full {w : Nat} (v : BitVec w) : field v 0 w = v := by
  simp [field]

@[simp] theorem bit_bitOf (b : Bool) : bit (bitOf b) 0 = b := by
  cases b <;> decide

/-- A byte is the concatenation of its high and its low part. -/
theorem cat_field_split {w : Nat} (v : BitVec w) (n : Nat) :
    cat w (field v n (w - n)) (field v 0 n) = v := by
  apply ext_bit
  intro i hi
  by_cases h : i < n
  · simp [bit_field, bit_cat, h, hi]
  · have h1 : i - n < w - n := by omega
    have h2 : n + (i - n) = i := by omega
    simp [bit_field, bit_cat, h, hi, h1, h2]

@[simp] theorem rev8_rev8 (b : Byte) : rev8 (rev8 b) = b := by
  apply ext_bit
  intro i hi
  interval_cases i <;> simp [rev8, bit_cat]

/-! ### The bytes the rules write, as masks -/

theorem low5_eq (v : Byte) (c : BitVec 5) : cat 8 (field v 5 3) c = (v &&& 0xE0#8) ||| c.setWidth 8 := by
  apply ext_bit
  intro i hi
  interval_cases i <;> simp [bit_cat, bit_field] <;> simp [bit]

theorem high3_eq (v : Byte) (c : BitVec 3) : cat 8 c (field v 0 5) = (v &&& 0x1F#8) ||| (c.setWidth 8 <<< 5) := by
  apply ext_bit
  intro i hi
  interval_cases i <;> simp [bit_cat, bit_field] <;> simp [bit]

theorem clear7_eq (v : Byte) : cat 8 0#1 (field v 0 7) = v &&& 0x7F#8 := by
  apply ext_bit
  intro i hi
  interval_cases i <;> simp [bit_cat, bit_field] <;> simp [bit]

theorem bit7_eq (v : Byte) (b : Bool) :
    cat 8 (bitOf b) (field v 0 7) = (v &&& 0x7F#8) ||| (if b then 0x80#8 else 0#8) := by
  apply ext_bit
  intro i hi
  cases b <;> interval_cases i <;> simp [bit_cat, bit_field] <;> simp [bit]

theorem high2_eq (v : Byte) (b : Bool) :
    cat 8 (cat 2 1#1 (bitOf b)) (field v 0 6) = (v &&& 0x3F#8) ||| (if b then 0xC0#8 else 0x80#8) := by
  apply ext_bit
  intro i hi
  cases b <;> interval_cases i <;> simp [bit_cat, bit_field] <;> simp [bit]

theorem bit1_eq (v : Byte) (b : Bool) :
    cat 8 (field v 2 6) (cat 2 (bitOf b) (field v 0 1)) = if b then v ||| 0x02#8 else v &&& 0xFD#8 := by
  apply ext_bit
  intro i hi
  cases b <;> interval_cases i <;> simp [bit_cat, bit_field] <;> simp [bit]

theorem trxpr_eq (u : BitVec 6) (b : Bool) :
    cat 8 u (cat 2 (bitOf b) 0#1) = (u.setWidth 8 <<< 2) ||| (if b then 0x02#8 else 0#8) := by
  apply ext_bit
  intro i hi
  cases b <;> interval_cases i <;> simp [bit_cat] <;> simp [bit]

theorem ccCca_eq (m : BitVec 2) (c : BitVec 5) : cat 8 0#1 (cat 7 m c) = (m.setWidth 8 <<< 5) ||| c.setWidth 8 := by
  apply ext_bit
  intro i hi
  interval_cases i <;> simp [bit_cat] <;> simp [bit]

end Sys2Proof
end

