-- ==== Sys2Proof/Laws/Memory.lean ====
section
/-! SUPPORT. The laws of the Register File's list: read after write, and that every operation keeps the canonical form. -/

namespace Sys2Proof.Machine

theorem lookup_insert_same (m : Memory) (a : Nat) (v : Byte) : Memory.lookup (Memory.insert m a v) a = some v := by
  induction m with
  | nil => simp [Memory.insert, Memory.lookup]
  | cons c m ih =>
    obtain ⟨k, w⟩ := c
    simp only [Memory.insert]
    split
    · simp [Memory.lookup]
    · split
      · simp [Memory.lookup]
      · rename_i h1 h2
        have : k ≠ a := fun h => h2 h.symm
        simp [Memory.lookup, this, ih]

theorem lookup_insert_other (m : Memory) (a b : Nat) (v : Byte) (h : b ≠ a) :
    Memory.lookup (Memory.insert m a v) b = Memory.lookup m b := by
  induction m with
  | nil => simp [Memory.insert, Memory.lookup, Ne.symm h]
  | cons c m ih =>
    obtain ⟨k, w⟩ := c
    simp only [Memory.insert]
    split
    · simp [Memory.lookup, Ne.symm h]
    · split
      · rename_i h1 h2
        subst h2
        simp [Memory.lookup, Ne.symm h]
      · simp [Memory.lookup, ih]

theorem lookup_erase_same (m : Memory) (a : Nat) : Memory.lookup (Memory.erase m a) a = none := by
  induction m with
  | nil => rfl
  | cons c m ih =>
    obtain ⟨k, w⟩ := c
    by_cases h : k = a
    · simpa [Memory.erase, h] using ih
    · simpa [Memory.erase, h, Memory.lookup] using ih

theorem lookup_erase_other (m : Memory) (a b : Nat) (h : b ≠ a) :
    Memory.lookup (Memory.erase m a) b = Memory.lookup m b := by
  induction m with
  | nil => rfl
  | cons c m ih =>
    obtain ⟨k, w⟩ := c
    by_cases hk : k = a
    · subst hk
      simpa [Memory.erase, Memory.lookup, Ne.symm h] using ih
    · by_cases hb : k = b
      · simp [Memory.erase, Memory.lookup, hb, h]
      · simpa [Memory.erase, hk, Memory.lookup, hb] using ih

/-- Read after write. -/
@[simp] theorem readMem_write (m : Memory) (n a b : Nat) (v : Byte) :
    readMem (Memory.write m a v) n b = if b = a then v else readMem m n b := by
  unfold readMem Memory.write
  by_cases h : b = a
  · subst h
    by_cases hf : fixedReset b = some v
    · simp [hf, lookup_erase_same, unlisted]
    · simp [hf, lookup_insert_same]
  · by_cases hf : fixedReset a = some v
    · simp [hf, h, lookup_erase_other]
    · simp [hf, h, lookup_insert_other]

/-- The smallest address listed is above a bound. -/
def Memory.above (a : Nat) : Memory → Prop
  | [] => True
  | c :: _ => a < c.1

theorem sorted_cons (c : Host.Cell) (m : Memory) :
    Memory.sorted (c :: m) = true ↔ Memory.above c.1 m ∧ Memory.sorted m = true := by
  cases m with
  | nil => simp [Memory.sorted, Memory.above]
  | cons d m => simp [Memory.sorted, Memory.above]

theorem above_of_sorted (c : Host.Cell) (m : Memory) (h : Memory.sorted (c :: m) = true) : ∀ d ∈ m, c.1 < d.1 := by
  induction m generalizing c with
  | nil => simp
  | cons e m ih =>
    rw [sorted_cons] at h
    have h1 : c.1 < e.1 := h.1
    intro d hd
    rcases List.mem_cons.mp hd with rfl | hd
    · exact h1
    · exact Nat.lt_trans h1 (ih e h.2 d hd)

theorem insert_above (m : Memory) (a b : Nat) (v : Byte) (h : Memory.above b m) (hb : b < a) :
    Memory.above b (Memory.insert m a v) := by
  cases m with
  | nil => simpa [Memory.insert, Memory.above] using hb
  | cons c m =>
    obtain ⟨k, w⟩ := c
    simp only [Memory.insert]
    split
    · simpa [Memory.above] using hb
    · split
      · simpa [Memory.above] using hb
      · simpa [Memory.above] using h

theorem sorted_insert (m : Memory) (a : Nat) (v : Byte) (h : Memory.sorted m = true) :
    Memory.sorted (Memory.insert m a v) = true := by
  induction m with
  | nil => rfl
  | cons c m ih =>
    obtain ⟨k, w⟩ := c
    have hs := (sorted_cons _ _).mp h
    simp only [Memory.insert]
    split
    · rename_i h1
      exact (sorted_cons _ _).mpr ⟨h1, h⟩
    · split
      · rename_i h1 h2
        subst h2
        exact (sorted_cons _ _).mpr ⟨hs.1, hs.2⟩
      · rename_i h1 h2
        exact (sorted_cons _ _).mpr ⟨insert_above m a k v hs.1 (by omega), ih hs.2⟩

theorem above_filter (m : Memory) (b : Nat) (p : Host.Cell → Bool) (h : ∀ d ∈ m, b < d.1) :
    Memory.above b (m.filter p) := by
  cases hf : m.filter p with
  | nil => simp [Memory.above]
  | cons d r =>
    have : d ∈ m.filter p := by simp [hf]
    exact h d (List.mem_of_mem_filter this)

theorem sorted_filter (m : Memory) (p : Host.Cell → Bool) (h : Memory.sorted m = true) :
    Memory.sorted (m.filter p) = true := by
  induction m with
  | nil => rfl
  | cons c m ih =>
    have hs := (sorted_cons _ _).mp h
    by_cases hp : p c = true
    · simp only [List.filter_cons, hp, if_true]
      exact (sorted_cons _ _).mpr ⟨above_filter m c.1 p (above_of_sorted c m h), ih hs.2⟩
    · simpa [List.filter_cons, hp] using ih hs.2

theorem mem_insert (m : Memory) (a : Nat) (v : Byte) (c : Host.Cell) (h : c ∈ Memory.insert m a v) :
    c = (a, v) ∨ c ∈ m := by
  induction m with
  | nil => simpa [Memory.insert] using h
  | cons d m ih =>
    obtain ⟨k, w⟩ := d
    simp only [Memory.insert] at h
    split at h
    · rcases List.mem_cons.mp h with h | h
      · exact .inl h
      · exact .inr h
    · split at h
      · rcases List.mem_cons.mp h with h | h
        · exact .inl h
        · exact .inr (List.mem_cons_of_mem _ h)
      · rcases List.mem_cons.mp h with h | h
        · exact .inr (by simp [h])
        · rcases ih h with h | h
          · exact .inl h
          · exact .inr (List.mem_cons_of_mem _ h)

/-- Every memory operation keeps the canonical form: the one write the meanings use. -/
theorem wf_write (m : Memory) (a : Nat) (v : Byte) (ha : a < 0x200) (h : Memory.wf m = true) :
    Memory.wf (Memory.write m a v) = true := by
  simp only [Memory.wf, Bool.and_eq_true, List.all_eq_true] at h ⊢
  unfold Memory.write
  split
  · refine ⟨sorted_filter m _ h.1, ?_⟩
    intro c hc
    exact h.2 c (List.mem_of_mem_filter hc)
  · rename_i hf
    refine ⟨sorted_insert m a v h.1, ?_⟩
    intro c hc
    rcases mem_insert m a v c hc with rfl | hc
    · simpa using ⟨ha, hf⟩
    · exact h.2 c hc

theorem wf_nil : Memory.wf [] = true := rfl

theorem fbAddr_lt (i : BitVec 7) : fbAddr i < 0x200 := by
  have := i.isLt
  simp only [fbAddr, Addr.fbBase]
  omega

theorem fbAddr_ge (i : BitVec 7) : 0x180 ≤ fbAddr i := by
  simp only [fbAddr, Addr.fbBase]
  omega

theorem fbAddr_inj (i j : BitVec 7) : fbAddr i = fbAddr j ↔ i = j := by
  simp only [fbAddr, Addr.fbBase]
  constructor
  · intro h
    exact BitVec.eq_of_toNat_eq (by omega)
  · rintro rfl
    rfl

end Sys2Proof.Machine
end

