-- ==== Sys2Proof/Laws/State.lean ====
section
/-! SUPPORT. One lemma per field of State for each update the meanings are built of, so that no later proof unfolds a record
update; and what one register reads after it. -/

namespace Sys2Proof.Machine

variable (s : State)

/-- Reading a register of an explicitly written state. -/
@[simp] theorem reg_mk (a : Nat)
        (x0 : List InputWord) (x1 : List Output) (x2 : Memory) (x3 : Nat) (x4 : OpState) (x5 : Nat) (x6 : Tx)
    (x7 : Byte) (x8 : Rx) (x9 : Byte) (x10 : Bool) (x11 : Bool) (x12 : BitVec 3) (x13 : BitVec 4) (x14 : Bool)
    (x15 : Bool) (x16 : Byte) (x17 : Pending) (x18 : Nat) (x19 : Bool) (x20 : Env) (x21 : Params) :
    State.reg ⟨x0, x1, x2, x3, x4, x5, x6, x7, x8, x9, x10, x11, x12, x13, x14, x15, x16, x17, x18, x19, x20, x21⟩ a = readMem x2 x3 a := rfl

@[simp] theorem readMem_self (a : Nat) : readMem s.regFile s.resets a = s.reg a := rfl

/-! ### emit -/

@[simp] theorem emit_inputs (o : Output) : (s.emit o).inputs = s.inputs := rfl
@[simp] theorem emit_outputs (o : Output) : (s.emit o).outputs = s.outputs ++ [o] := rfl
@[simp] theorem emit_regFile (o : Output) : (s.emit o).regFile = s.regFile := rfl
@[simp] theorem emit_resets (o : Output) : (s.emit o).resets = s.resets := rfl
@[simp] theorem emit_opState (o : Output) : (s.emit o).opState = s.opState := rfl
@[simp] theorem emit_powerMode (o : Output) : (s.emit o).powerMode = s.powerMode := rfl
@[simp] theorem emit_tx (o : Output) : (s.emit o).tx = s.tx := rfl
@[simp] theorem emit_lastTxSeq (o : Output) : (s.emit o).lastTxSeq = s.lastTxSeq := rfl
@[simp] theorem emit_rx (o : Output) : (s.emit o).rx = s.rx := rfl
@[simp] theorem emit_rxSeq (o : Output) : (s.emit o).rxSeq = s.rxSeq := rfl
@[simp] theorem emit_lastCrcOk (o : Output) : (s.emit o).lastCrcOk = s.lastCrcOk := rfl
@[simp] theorem emit_aretActive (o : Output) : (s.emit o).aretActive = s.aretActive := rfl
@[simp] theorem emit_csmaRetries (o : Output) : (s.emit o).csmaRetries = s.csmaRetries := rfl
@[simp] theorem emit_frameRetries (o : Output) : (s.emit o).frameRetries = s.frameRetries := rfl
@[simp] theorem emit_awaitingAck (o : Output) : (s.emit o).awaitingAck = s.awaitingAck := rfl
@[simp] theorem emit_sendAck (o : Output) : (s.emit o).sendAck = s.sendAck := rfl
@[simp] theorem emit_ccaStartEnergy (o : Output) : (s.emit o).ccaStartEnergy = s.ccaStartEnergy := rfl
@[simp] theorem emit_pending (o : Output) : (s.emit o).pending = s.pending := rfl
@[simp] theorem emit_now (o : Output) : (s.emit o).now = s.now := rfl
@[simp] theorem emit_pinLevel (o : Output) : (s.emit o).pinLevel = s.pinLevel := rfl
@[simp] theorem emit_env (o : Output) : (s.emit o).env = s.env := rfl
@[simp] theorem emit_params (o : Output) : (s.emit o).params = s.params := rfl
@[simp] theorem emit_reg (o : Output) (b : Nat) : (s.emit o).reg b = s.reg b := rfl

/-! ### diag -/

@[simp] theorem diag_inputs (d : Diag) : (s.diag d).inputs = s.inputs := rfl
@[simp] theorem diag_outputs (d : Diag) : (s.diag d).outputs = s.outputs ++ [.diag d] := rfl
@[simp] theorem diag_regFile (d : Diag) : (s.diag d).regFile = s.regFile := rfl
@[simp] theorem diag_resets (d : Diag) : (s.diag d).resets = s.resets := rfl
@[simp] theorem diag_opState (d : Diag) : (s.diag d).opState = s.opState := rfl
@[simp] theorem diag_powerMode (d : Diag) : (s.diag d).powerMode = s.powerMode := rfl
@[simp] theorem diag_tx (d : Diag) : (s.diag d).tx = s.tx := rfl
@[simp] theorem diag_lastTxSeq (d : Diag) : (s.diag d).lastTxSeq = s.lastTxSeq := rfl
@[simp] theorem diag_rx (d : Diag) : (s.diag d).rx = s.rx := rfl
@[simp] theorem diag_rxSeq (d : Diag) : (s.diag d).rxSeq = s.rxSeq := rfl
@[simp] theorem diag_lastCrcOk (d : Diag) : (s.diag d).lastCrcOk = s.lastCrcOk := rfl
@[simp] theorem diag_aretActive (d : Diag) : (s.diag d).aretActive = s.aretActive := rfl
@[simp] theorem diag_csmaRetries (d : Diag) : (s.diag d).csmaRetries = s.csmaRetries := rfl
@[simp] theorem diag_frameRetries (d : Diag) : (s.diag d).frameRetries = s.frameRetries := rfl
@[simp] theorem diag_awaitingAck (d : Diag) : (s.diag d).awaitingAck = s.awaitingAck := rfl
@[simp] theorem diag_sendAck (d : Diag) : (s.diag d).sendAck = s.sendAck := rfl
@[simp] theorem diag_ccaStartEnergy (d : Diag) : (s.diag d).ccaStartEnergy = s.ccaStartEnergy := rfl
@[simp] theorem diag_pending (d : Diag) : (s.diag d).pending = s.pending := rfl
@[simp] theorem diag_now (d : Diag) : (s.diag d).now = s.now := rfl
@[simp] theorem diag_pinLevel (d : Diag) : (s.diag d).pinLevel = s.pinLevel := rfl
@[simp] theorem diag_env (d : Diag) : (s.diag d).env = s.env := rfl
@[simp] theorem diag_params (d : Diag) : (s.diag d).params = s.params := rfl
@[simp] theorem diag_reg (d : Diag) (b : Nat) : (s.diag d).reg b = s.reg b := rfl

/-! ### setReg -/

@[simp] theorem setReg_inputs (a : Nat) (v : Byte) : (s.setReg a v).inputs = s.inputs := rfl
@[simp] theorem setReg_outputs (a : Nat) (v : Byte) : (s.setReg a v).outputs = s.outputs := rfl
@[simp] theorem setReg_regFile (a : Nat) (v : Byte) : (s.setReg a v).regFile = Memory.write s.regFile a v := rfl
@[simp] theorem setReg_resets (a : Nat) (v : Byte) : (s.setReg a v).resets = s.resets := rfl
@[simp] theorem setReg_opState (a : Nat) (v : Byte) : (s.setReg a v).opState = s.opState := rfl
@[simp] theorem setReg_powerMode (a : Nat) (v : Byte) : (s.setReg a v).powerMode = s.powerMode := rfl
@[simp] theorem setReg_tx (a : Nat) (v : Byte) : (s.setReg a v).tx = s.tx := rfl
@[simp] theorem setReg_lastTxSeq (a : Nat) (v : Byte) : (s.setReg a v).lastTxSeq = s.lastTxSeq := rfl
@[simp] theorem setReg_rx (a : Nat) (v : Byte) : (s.setReg a v).rx = s.rx := rfl
@[simp] theorem setReg_rxSeq (a : Nat) (v : Byte) : (s.setReg a v).rxSeq = s.rxSeq := rfl
@[simp] theorem setReg_lastCrcOk (a : Nat) (v : Byte) : (s.setReg a v).lastCrcOk = s.lastCrcOk := rfl
@[simp] theorem setReg_aretActive (a : Nat) (v : Byte) : (s.setReg a v).aretActive = s.aretActive := rfl
@[simp] theorem setReg_csmaRetries (a : Nat) (v : Byte) : (s.setReg a v).csmaRetries = s.csmaRetries := rfl
@[simp] theorem setReg_frameRetries (a : Nat) (v : Byte) : (s.setReg a v).frameRetries = s.frameRetries := rfl
@[simp] theorem setReg_awaitingAck (a : Nat) (v : Byte) : (s.setReg a v).awaitingAck = s.awaitingAck := rfl
@[simp] theorem setReg_sendAck (a : Nat) (v : Byte) : (s.setReg a v).sendAck = s.sendAck := rfl
@[simp] theorem setReg_ccaStartEnergy (a : Nat) (v : Byte) : (s.setReg a v).ccaStartEnergy = s.ccaStartEnergy := rfl
@[simp] theorem setReg_pending (a : Nat) (v : Byte) : (s.setReg a v).pending = s.pending := rfl
@[simp] theorem setReg_now (a : Nat) (v : Byte) : (s.setReg a v).now = s.now := rfl
@[simp] theorem setReg_pinLevel (a : Nat) (v : Byte) : (s.setReg a v).pinLevel = s.pinLevel := rfl
@[simp] theorem setReg_env (a : Nat) (v : Byte) : (s.setReg a v).env = s.env := rfl
@[simp] theorem setReg_params (a : Nat) (v : Byte) : (s.setReg a v).params = s.params := rfl

/-! ### setFb -/

@[simp] theorem setFb_inputs (i : BitVec 7) (v : Byte) : (s.setFb i v).inputs = s.inputs := rfl
@[simp] theorem setFb_outputs (i : BitVec 7) (v : Byte) : (s.setFb i v).outputs = s.outputs := rfl
@[simp] theorem setFb_regFile (i : BitVec 7) (v : Byte) : (s.setFb i v).regFile =
    Memory.write s.regFile (fbAddr i) v := rfl
@[simp] theorem setFb_resets (i : BitVec 7) (v : Byte) : (s.setFb i v).resets = s.resets := rfl
@[simp] theorem setFb_opState (i : BitVec 7) (v : Byte) : (s.setFb i v).opState = s.opState := rfl
@[simp] theorem setFb_powerMode (i : BitVec 7) (v : Byte) : (s.setFb i v).powerMode = s.powerMode := rfl
@[simp] theorem setFb_tx (i : BitVec 7) (v : Byte) : (s.setFb i v).tx = s.tx := rfl
@[simp] theorem setFb_lastTxSeq (i : BitVec 7) (v : Byte) : (s.setFb i v).lastTxSeq = s.lastTxSeq := rfl
@[simp] theorem setFb_rx (i : BitVec 7) (v : Byte) : (s.setFb i v).rx = s.rx := rfl
@[simp] theorem setFb_rxSeq (i : BitVec 7) (v : Byte) : (s.setFb i v).rxSeq = s.rxSeq := rfl
@[simp] theorem setFb_lastCrcOk (i : BitVec 7) (v : Byte) : (s.setFb i v).lastCrcOk = s.lastCrcOk := rfl
@[simp] theorem setFb_aretActive (i : BitVec 7) (v : Byte) : (s.setFb i v).aretActive = s.aretActive := rfl
@[simp] theorem setFb_csmaRetries (i : BitVec 7) (v : Byte) : (s.setFb i v).csmaRetries = s.csmaRetries := rfl
@[simp] theorem setFb_frameRetries (i : BitVec 7) (v : Byte) : (s.setFb i v).frameRetries = s.frameRetries := rfl
@[simp] theorem setFb_awaitingAck (i : BitVec 7) (v : Byte) : (s.setFb i v).awaitingAck = s.awaitingAck := rfl
@[simp] theorem setFb_sendAck (i : BitVec 7) (v : Byte) : (s.setFb i v).sendAck = s.sendAck := rfl
@[simp] theorem setFb_ccaStartEnergy (i : BitVec 7) (v : Byte) : (s.setFb i v).ccaStartEnergy = s.ccaStartEnergy := rfl
@[simp] theorem setFb_pending (i : BitVec 7) (v : Byte) : (s.setFb i v).pending = s.pending := rfl
@[simp] theorem setFb_now (i : BitVec 7) (v : Byte) : (s.setFb i v).now = s.now := rfl
@[simp] theorem setFb_pinLevel (i : BitVec 7) (v : Byte) : (s.setFb i v).pinLevel = s.pinLevel := rfl
@[simp] theorem setFb_env (i : BitVec 7) (v : Byte) : (s.setFb i v).env = s.env := rfl
@[simp] theorem setFb_params (i : BitVec 7) (v : Byte) : (s.setFb i v).params = s.params := rfl

/-! ### updateIrqLines -/

@[simp] theorem updateIrqLines_inputs (l : Byte) : (s.updateIrqLines l).inputs = s.inputs := rfl
@[simp] theorem updateIrqLines_outputs (l : Byte) : (s.updateIrqLines l).outputs =
    s.outputs ++ irqChanges l s.irqLevels := rfl
@[simp] theorem updateIrqLines_regFile (l : Byte) : (s.updateIrqLines l).regFile = s.regFile := rfl
@[simp] theorem updateIrqLines_resets (l : Byte) : (s.updateIrqLines l).resets = s.resets := rfl
@[simp] theorem updateIrqLines_opState (l : Byte) : (s.updateIrqLines l).opState = s.opState := rfl
@[simp] theorem updateIrqLines_powerMode (l : Byte) : (s.updateIrqLines l).powerMode = s.powerMode := rfl
@[simp] theorem updateIrqLines_tx (l : Byte) : (s.updateIrqLines l).tx = s.tx := rfl
@[simp] theorem updateIrqLines_lastTxSeq (l : Byte) : (s.updateIrqLines l).lastTxSeq = s.lastTxSeq := rfl
@[simp] theorem updateIrqLines_rx (l : Byte) : (s.updateIrqLines l).rx = s.rx := rfl
@[simp] theorem updateIrqLines_rxSeq (l : Byte) : (s.updateIrqLines l).rxSeq = s.rxSeq := rfl
@[simp] theorem updateIrqLines_lastCrcOk (l : Byte) : (s.updateIrqLines l).lastCrcOk = s.lastCrcOk := rfl
@[simp] theorem updateIrqLines_aretActive (l : Byte) : (s.updateIrqLines l).aretActive = s.aretActive := rfl
@[simp] theorem updateIrqLines_csmaRetries (l : Byte) : (s.updateIrqLines l).csmaRetries = s.csmaRetries := rfl
@[simp] theorem updateIrqLines_frameRetries (l : Byte) : (s.updateIrqLines l).frameRetries = s.frameRetries := rfl
@[simp] theorem updateIrqLines_awaitingAck (l : Byte) : (s.updateIrqLines l).awaitingAck = s.awaitingAck := rfl
@[simp] theorem updateIrqLines_sendAck (l : Byte) : (s.updateIrqLines l).sendAck = s.sendAck := rfl
@[simp] theorem updateIrqLines_ccaStartEnergy (l : Byte) : (s.updateIrqLines l).ccaStartEnergy = s.ccaStartEnergy := rfl
@[simp] theorem updateIrqLines_pending (l : Byte) : (s.updateIrqLines l).pending = s.pending := rfl
@[simp] theorem updateIrqLines_now (l : Byte) : (s.updateIrqLines l).now = s.now := rfl
@[simp] theorem updateIrqLines_pinLevel (l : Byte) : (s.updateIrqLines l).pinLevel = s.pinLevel := rfl
@[simp] theorem updateIrqLines_env (l : Byte) : (s.updateIrqLines l).env = s.env := rfl
@[simp] theorem updateIrqLines_params (l : Byte) : (s.updateIrqLines l).params = s.params := rfl
@[simp] theorem updateIrqLines_reg (l : Byte) (b : Nat) : (s.updateIrqLines l).reg b = s.reg b := rfl

/-! ### post -/

@[simp] theorem post_inputs (l : IrqLine) : (s.post l).inputs = s.inputs := rfl
@[simp] theorem post_regFile (l : IrqLine) : (s.post l).regFile =
    Memory.write s.regFile Addr.irqStatus (s.reg Addr.irqStatus ||| (1#8 <<< l.bitNo)) := rfl
@[simp] theorem post_resets (l : IrqLine) : (s.post l).resets = s.resets := rfl
@[simp] theorem post_opState (l : IrqLine) : (s.post l).opState = s.opState := rfl
@[simp] theorem post_powerMode (l : IrqLine) : (s.post l).powerMode = s.powerMode := rfl
@[simp] theorem post_tx (l : IrqLine) : (s.post l).tx = s.tx := rfl
@[simp] theorem post_lastTxSeq (l : IrqLine) : (s.post l).lastTxSeq = s.lastTxSeq := rfl
@[simp] theorem post_rx (l : IrqLine) : (s.post l).rx = s.rx := rfl
@[simp] theorem post_rxSeq (l : IrqLine) : (s.post l).rxSeq = s.rxSeq := rfl
@[simp] theorem post_lastCrcOk (l : IrqLine) : (s.post l).lastCrcOk = s.lastCrcOk := rfl
@[simp] theorem post_aretActive (l : IrqLine) : (s.post l).aretActive = s.aretActive := rfl
@[simp] theorem post_csmaRetries (l : IrqLine) : (s.post l).csmaRetries = s.csmaRetries := rfl
@[simp] theorem post_frameRetries (l : IrqLine) : (s.post l).frameRetries = s.frameRetries := rfl
@[simp] theorem post_awaitingAck (l : IrqLine) : (s.post l).awaitingAck = s.awaitingAck := rfl
@[simp] theorem post_sendAck (l : IrqLine) : (s.post l).sendAck = s.sendAck := rfl
@[simp] theorem post_ccaStartEnergy (l : IrqLine) : (s.post l).ccaStartEnergy = s.ccaStartEnergy := rfl
@[simp] theorem post_pending (l : IrqLine) : (s.post l).pending = s.pending := rfl
@[simp] theorem post_now (l : IrqLine) : (s.post l).now = s.now := rfl
@[simp] theorem post_pinLevel (l : IrqLine) : (s.post l).pinLevel = s.pinLevel := rfl
@[simp] theorem post_env (l : IrqLine) : (s.post l).env = s.env := rfl
@[simp] theorem post_params (l : IrqLine) : (s.post l).params = s.params := rfl

/-! ### clearIrq -/

@[simp] theorem clearIrq_inputs (v : Byte) : (s.clearIrq v).inputs = s.inputs := rfl
@[simp] theorem clearIrq_regFile (v : Byte) : (s.clearIrq v).regFile =
    Memory.write s.regFile Addr.irqStatus (s.reg Addr.irqStatus &&& ~~~v) := rfl
@[simp] theorem clearIrq_resets (v : Byte) : (s.clearIrq v).resets = s.resets := rfl
@[simp] theorem clearIrq_opState (v : Byte) : (s.clearIrq v).opState = s.opState := rfl
@[simp] theorem clearIrq_powerMode (v : Byte) : (s.clearIrq v).powerMode = s.powerMode := rfl
@[simp] theorem clearIrq_tx (v : Byte) : (s.clearIrq v).tx = s.tx := rfl
@[simp] theorem clearIrq_lastTxSeq (v : Byte) : (s.clearIrq v).lastTxSeq = s.lastTxSeq := rfl
@[simp] theorem clearIrq_rx (v : Byte) : (s.clearIrq v).rx = s.rx := rfl
@[simp] theorem clearIrq_rxSeq (v : Byte) : (s.clearIrq v).rxSeq = s.rxSeq := rfl
@[simp] theorem clearIrq_lastCrcOk (v : Byte) : (s.clearIrq v).lastCrcOk = s.lastCrcOk := rfl
@[simp] theorem clearIrq_aretActive (v : Byte) : (s.clearIrq v).aretActive = s.aretActive := rfl
@[simp] theorem clearIrq_csmaRetries (v : Byte) : (s.clearIrq v).csmaRetries = s.csmaRetries := rfl
@[simp] theorem clearIrq_frameRetries (v : Byte) : (s.clearIrq v).frameRetries = s.frameRetries := rfl
@[simp] theorem clearIrq_awaitingAck (v : Byte) : (s.clearIrq v).awaitingAck = s.awaitingAck := rfl
@[simp] theorem clearIrq_sendAck (v : Byte) : (s.clearIrq v).sendAck = s.sendAck := rfl
@[simp] theorem clearIrq_ccaStartEnergy (v : Byte) : (s.clearIrq v).ccaStartEnergy = s.ccaStartEnergy := rfl
@[simp] theorem clearIrq_pending (v : Byte) : (s.clearIrq v).pending = s.pending := rfl
@[simp] theorem clearIrq_now (v : Byte) : (s.clearIrq v).now = s.now := rfl
@[simp] theorem clearIrq_pinLevel (v : Byte) : (s.clearIrq v).pinLevel = s.pinLevel := rfl
@[simp] theorem clearIrq_env (v : Byte) : (s.clearIrq v).env = s.env := rfl
@[simp] theorem clearIrq_params (v : Byte) : (s.clearIrq v).params = s.params := rfl

/-! ### writeIrqMask -/

@[simp] theorem writeIrqMask_inputs (v : Byte) : (s.writeIrqMask v).inputs = s.inputs := rfl
@[simp] theorem writeIrqMask_regFile (v : Byte) : (s.writeIrqMask v).regFile =
    Memory.write s.regFile Addr.irqMask v := rfl
@[simp] theorem writeIrqMask_resets (v : Byte) : (s.writeIrqMask v).resets = s.resets := rfl
@[simp] theorem writeIrqMask_opState (v : Byte) : (s.writeIrqMask v).opState = s.opState := rfl
@[simp] theorem writeIrqMask_powerMode (v : Byte) : (s.writeIrqMask v).powerMode = s.powerMode := rfl
@[simp] theorem writeIrqMask_tx (v : Byte) : (s.writeIrqMask v).tx = s.tx := rfl
@[simp] theorem writeIrqMask_lastTxSeq (v : Byte) : (s.writeIrqMask v).lastTxSeq = s.lastTxSeq := rfl
@[simp] theorem writeIrqMask_rx (v : Byte) : (s.writeIrqMask v).rx = s.rx := rfl
@[simp] theorem writeIrqMask_rxSeq (v : Byte) : (s.writeIrqMask v).rxSeq = s.rxSeq := rfl
@[simp] theorem writeIrqMask_lastCrcOk (v : Byte) : (s.writeIrqMask v).lastCrcOk = s.lastCrcOk := rfl
@[simp] theorem writeIrqMask_aretActive (v : Byte) : (s.writeIrqMask v).aretActive = s.aretActive := rfl
@[simp] theorem writeIrqMask_csmaRetries (v : Byte) : (s.writeIrqMask v).csmaRetries = s.csmaRetries := rfl
@[simp] theorem writeIrqMask_frameRetries (v : Byte) : (s.writeIrqMask v).frameRetries = s.frameRetries := rfl
@[simp] theorem writeIrqMask_awaitingAck (v : Byte) : (s.writeIrqMask v).awaitingAck = s.awaitingAck := rfl
@[simp] theorem writeIrqMask_sendAck (v : Byte) : (s.writeIrqMask v).sendAck = s.sendAck := rfl
@[simp] theorem writeIrqMask_ccaStartEnergy (v : Byte) : (s.writeIrqMask v).ccaStartEnergy = s.ccaStartEnergy := rfl
@[simp] theorem writeIrqMask_pending (v : Byte) : (s.writeIrqMask v).pending = s.pending := rfl
@[simp] theorem writeIrqMask_now (v : Byte) : (s.writeIrqMask v).now = s.now := rfl
@[simp] theorem writeIrqMask_pinLevel (v : Byte) : (s.writeIrqMask v).pinLevel = s.pinLevel := rfl
@[simp] theorem writeIrqMask_env (v : Byte) : (s.writeIrqMask v).env = s.env := rfl
@[simp] theorem writeIrqMask_params (v : Byte) : (s.writeIrqMask v).params = s.params := rfl

/-! ### setState -/

@[simp] theorem setState_inputs (x : OpState) : (s.setState x).inputs = s.inputs := rfl
@[simp] theorem setState_outputs (x : OpState) : (s.setState x).outputs =
    s.outputs ++ [.powerMode (powerIndex x s.txPwr), .probe s.opState x] := rfl
@[simp] theorem setState_regFile (x : OpState) : (s.setState x).regFile =
    Memory.write s.regFile Addr.trxStatus (cat 8 (field (s.reg Addr.trxStatus) 5 3) x.code) := rfl
@[simp] theorem setState_resets (x : OpState) : (s.setState x).resets = s.resets := rfl
@[simp] theorem setState_opState (x : OpState) : (s.setState x).opState = x := rfl
@[simp] theorem setState_powerMode (x : OpState) : (s.setState x).powerMode = powerIndex x s.txPwr := rfl
@[simp] theorem setState_tx (x : OpState) : (s.setState x).tx = s.tx := rfl
@[simp] theorem setState_lastTxSeq (x : OpState) : (s.setState x).lastTxSeq = s.lastTxSeq := rfl
@[simp] theorem setState_rx (x : OpState) : (s.setState x).rx = s.rx := rfl
@[simp] theorem setState_rxSeq (x : OpState) : (s.setState x).rxSeq = s.rxSeq := rfl
@[simp] theorem setState_lastCrcOk (x : OpState) : (s.setState x).lastCrcOk = s.lastCrcOk := rfl
@[simp] theorem setState_aretActive (x : OpState) : (s.setState x).aretActive = s.aretActive := rfl
@[simp] theorem setState_csmaRetries (x : OpState) : (s.setState x).csmaRetries = s.csmaRetries := rfl
@[simp] theorem setState_frameRetries (x : OpState) : (s.setState x).frameRetries = s.frameRetries := rfl
@[simp] theorem setState_awaitingAck (x : OpState) : (s.setState x).awaitingAck = s.awaitingAck := rfl
@[simp] theorem setState_sendAck (x : OpState) : (s.setState x).sendAck = s.sendAck := rfl
@[simp] theorem setState_ccaStartEnergy (x : OpState) : (s.setState x).ccaStartEnergy = s.ccaStartEnergy := rfl
@[simp] theorem setState_pending (x : OpState) : (s.setState x).pending = s.pending := rfl
@[simp] theorem setState_now (x : OpState) : (s.setState x).now = s.now := rfl
@[simp] theorem setState_pinLevel (x : OpState) : (s.setState x).pinLevel = s.pinLevel := rfl
@[simp] theorem setState_env (x : OpState) : (s.setState x).env = s.env := rfl
@[simp] theorem setState_params (x : OpState) : (s.setState x).params = s.params := rfl

/-! ### setTrac -/

@[simp] theorem setTrac_inputs (c : BitVec 3) : (s.setTrac c).inputs = s.inputs := rfl
@[simp] theorem setTrac_outputs (c : BitVec 3) : (s.setTrac c).outputs = s.outputs := rfl
@[simp] theorem setTrac_regFile (c : BitVec 3) : (s.setTrac c).regFile =
    Memory.write s.regFile Addr.trxState (cat 8 c (field (s.reg Addr.trxState) 0 5)) := rfl
@[simp] theorem setTrac_resets (c : BitVec 3) : (s.setTrac c).resets = s.resets := rfl
@[simp] theorem setTrac_opState (c : BitVec 3) : (s.setTrac c).opState = s.opState := rfl
@[simp] theorem setTrac_powerMode (c : BitVec 3) : (s.setTrac c).powerMode = s.powerMode := rfl
@[simp] theorem setTrac_tx (c : BitVec 3) : (s.setTrac c).tx = s.tx := rfl
@[simp] theorem setTrac_lastTxSeq (c : BitVec 3) : (s.setTrac c).lastTxSeq = s.lastTxSeq := rfl
@[simp] theorem setTrac_rx (c : BitVec 3) : (s.setTrac c).rx = s.rx := rfl
@[simp] theorem setTrac_rxSeq (c : BitVec 3) : (s.setTrac c).rxSeq = s.rxSeq := rfl
@[simp] theorem setTrac_lastCrcOk (c : BitVec 3) : (s.setTrac c).lastCrcOk = s.lastCrcOk := rfl
@[simp] theorem setTrac_aretActive (c : BitVec 3) : (s.setTrac c).aretActive = s.aretActive := rfl
@[simp] theorem setTrac_csmaRetries (c : BitVec 3) : (s.setTrac c).csmaRetries = s.csmaRetries := rfl
@[simp] theorem setTrac_frameRetries (c : BitVec 3) : (s.setTrac c).frameRetries = s.frameRetries := rfl
@[simp] theorem setTrac_awaitingAck (c : BitVec 3) : (s.setTrac c).awaitingAck = s.awaitingAck := rfl
@[simp] theorem setTrac_sendAck (c : BitVec 3) : (s.setTrac c).sendAck = s.sendAck := rfl
@[simp] theorem setTrac_ccaStartEnergy (c : BitVec 3) : (s.setTrac c).ccaStartEnergy = s.ccaStartEnergy := rfl
@[simp] theorem setTrac_pending (c : BitVec 3) : (s.setTrac c).pending = s.pending := rfl
@[simp] theorem setTrac_now (c : BitVec 3) : (s.setTrac c).now = s.now := rfl
@[simp] theorem setTrac_pinLevel (c : BitVec 3) : (s.setTrac c).pinLevel = s.pinLevel := rfl
@[simp] theorem setTrac_env (c : BitVec 3) : (s.setTrac c).env = s.env := rfl
@[simp] theorem setTrac_params (c : BitVec 3) : (s.setTrac c).params = s.params := rfl

/-! ### schedule -/

@[simp] theorem schedule_inputs (e : Event) (d : Nat) : (s.schedule e d).inputs = s.inputs := rfl
@[simp] theorem schedule_outputs (e : Event) (d : Nat) : (s.schedule e d).outputs = s.outputs := rfl
@[simp] theorem schedule_regFile (e : Event) (d : Nat) : (s.schedule e d).regFile = s.regFile := rfl
@[simp] theorem schedule_resets (e : Event) (d : Nat) : (s.schedule e d).resets = s.resets := rfl
@[simp] theorem schedule_opState (e : Event) (d : Nat) : (s.schedule e d).opState = s.opState := rfl
@[simp] theorem schedule_powerMode (e : Event) (d : Nat) : (s.schedule e d).powerMode = s.powerMode := rfl
@[simp] theorem schedule_tx (e : Event) (d : Nat) : (s.schedule e d).tx = s.tx := rfl
@[simp] theorem schedule_lastTxSeq (e : Event) (d : Nat) : (s.schedule e d).lastTxSeq = s.lastTxSeq := rfl
@[simp] theorem schedule_rx (e : Event) (d : Nat) : (s.schedule e d).rx = s.rx := rfl
@[simp] theorem schedule_rxSeq (e : Event) (d : Nat) : (s.schedule e d).rxSeq = s.rxSeq := rfl
@[simp] theorem schedule_lastCrcOk (e : Event) (d : Nat) : (s.schedule e d).lastCrcOk = s.lastCrcOk := rfl
@[simp] theorem schedule_aretActive (e : Event) (d : Nat) : (s.schedule e d).aretActive = s.aretActive := rfl
@[simp] theorem schedule_csmaRetries (e : Event) (d : Nat) : (s.schedule e d).csmaRetries = s.csmaRetries := rfl
@[simp] theorem schedule_frameRetries (e : Event) (d : Nat) : (s.schedule e d).frameRetries = s.frameRetries := rfl
@[simp] theorem schedule_awaitingAck (e : Event) (d : Nat) : (s.schedule e d).awaitingAck = s.awaitingAck := rfl
@[simp] theorem schedule_sendAck (e : Event) (d : Nat) : (s.schedule e d).sendAck = s.sendAck := rfl
@[simp] theorem schedule_ccaStartEnergy (e : Event) (d : Nat) : (s.schedule e d).ccaStartEnergy = s.ccaStartEnergy := rfl
@[simp] theorem schedule_pending (e : Event) (d : Nat) : (s.schedule e d).pending =
    s.pending.set e (some (s.now + d * s.params.symbolCycles)) := rfl
@[simp] theorem schedule_now (e : Event) (d : Nat) : (s.schedule e d).now = s.now := rfl
@[simp] theorem schedule_pinLevel (e : Event) (d : Nat) : (s.schedule e d).pinLevel = s.pinLevel := rfl
@[simp] theorem schedule_env (e : Event) (d : Nat) : (s.schedule e d).env = s.env := rfl
@[simp] theorem schedule_params (e : Event) (d : Nat) : (s.schedule e d).params = s.params := rfl
@[simp] theorem schedule_reg (e : Event) (d : Nat) (b : Nat) : (s.schedule e d).reg b = s.reg b := rfl

/-! ### cancel -/

@[simp] theorem cancel_inputs (e : Event) : (s.cancel e).inputs = s.inputs := rfl
@[simp] theorem cancel_outputs (e : Event) : (s.cancel e).outputs = s.outputs := rfl
@[simp] theorem cancel_regFile (e : Event) : (s.cancel e).regFile = s.regFile := rfl
@[simp] theorem cancel_resets (e : Event) : (s.cancel e).resets = s.resets := rfl
@[simp] theorem cancel_opState (e : Event) : (s.cancel e).opState = s.opState := rfl
@[simp] theorem cancel_powerMode (e : Event) : (s.cancel e).powerMode = s.powerMode := rfl
@[simp] theorem cancel_tx (e : Event) : (s.cancel e).tx = s.tx := rfl
@[simp] theorem cancel_lastTxSeq (e : Event) : (s.cancel e).lastTxSeq = s.lastTxSeq := rfl
@[simp] theorem cancel_rx (e : Event) : (s.cancel e).rx = s.rx := rfl
@[simp] theorem cancel_rxSeq (e : Event) : (s.cancel e).rxSeq = s.rxSeq := rfl
@[simp] theorem cancel_lastCrcOk (e : Event) : (s.cancel e).lastCrcOk = s.lastCrcOk := rfl
@[simp] theorem cancel_aretActive (e : Event) : (s.cancel e).aretActive = s.aretActive := rfl
@[simp] theorem cancel_csmaRetries (e : Event) : (s.cancel e).csmaRetries = s.csmaRetries := rfl
@[simp] theorem cancel_frameRetries (e : Event) : (s.cancel e).frameRetries = s.frameRetries := rfl
@[simp] theorem cancel_awaitingAck (e : Event) : (s.cancel e).awaitingAck = s.awaitingAck := rfl
@[simp] theorem cancel_sendAck (e : Event) : (s.cancel e).sendAck = s.sendAck := rfl
@[simp] theorem cancel_ccaStartEnergy (e : Event) : (s.cancel e).ccaStartEnergy = s.ccaStartEnergy := rfl
@[simp] theorem cancel_pending (e : Event) : (s.cancel e).pending = s.pending.set e none := rfl
@[simp] theorem cancel_now (e : Event) : (s.cancel e).now = s.now := rfl
@[simp] theorem cancel_pinLevel (e : Event) : (s.cancel e).pinLevel = s.pinLevel := rfl
@[simp] theorem cancel_env (e : Event) : (s.cancel e).env = s.env := rfl
@[simp] theorem cancel_params (e : Event) : (s.cancel e).params = s.params := rfl
@[simp] theorem cancel_reg (e : Event) (b : Nat) : (s.cancel e).reg b = s.reg b := rfl

/-! ### popEnergy -/

@[simp] theorem popEnergy_inputs : (s.popEnergy).inputs = s.inputs := rfl
@[simp] theorem popEnergy_outputs : (s.popEnergy).outputs = s.outputs := rfl
@[simp] theorem popEnergy_regFile : (s.popEnergy).regFile = s.regFile := rfl
@[simp] theorem popEnergy_resets : (s.popEnergy).resets = s.resets := rfl
@[simp] theorem popEnergy_opState : (s.popEnergy).opState = s.opState := rfl
@[simp] theorem popEnergy_powerMode : (s.popEnergy).powerMode = s.powerMode := rfl
@[simp] theorem popEnergy_tx : (s.popEnergy).tx = s.tx := rfl
@[simp] theorem popEnergy_lastTxSeq : (s.popEnergy).lastTxSeq = s.lastTxSeq := rfl
@[simp] theorem popEnergy_rx : (s.popEnergy).rx = s.rx := rfl
@[simp] theorem popEnergy_rxSeq : (s.popEnergy).rxSeq = s.rxSeq := rfl
@[simp] theorem popEnergy_lastCrcOk : (s.popEnergy).lastCrcOk = s.lastCrcOk := rfl
@[simp] theorem popEnergy_aretActive : (s.popEnergy).aretActive = s.aretActive := rfl
@[simp] theorem popEnergy_csmaRetries : (s.popEnergy).csmaRetries = s.csmaRetries := rfl
@[simp] theorem popEnergy_frameRetries : (s.popEnergy).frameRetries = s.frameRetries := rfl
@[simp] theorem popEnergy_awaitingAck : (s.popEnergy).awaitingAck = s.awaitingAck := rfl
@[simp] theorem popEnergy_sendAck : (s.popEnergy).sendAck = s.sendAck := rfl
@[simp] theorem popEnergy_ccaStartEnergy : (s.popEnergy).ccaStartEnergy = s.ccaStartEnergy := rfl
@[simp] theorem popEnergy_pending : (s.popEnergy).pending = s.pending := rfl
@[simp] theorem popEnergy_now : (s.popEnergy).now = s.now := rfl
@[simp] theorem popEnergy_pinLevel : (s.popEnergy).pinLevel = s.pinLevel := rfl
@[simp] theorem popEnergy_env : (s.popEnergy).env =
    { s.env with energy := s.env.energy.tail, drawn := s.env.drawn + 1 } := rfl
@[simp] theorem popEnergy_params : (s.popEnergy).params = s.params := rfl
@[simp] theorem popEnergy_reg (b : Nat) : (s.popEnergy).reg b = s.reg b := rfl

/-! ### popRssi -/

@[simp] theorem popRssi_inputs : (s.popRssi).inputs = s.inputs := rfl
@[simp] theorem popRssi_outputs : (s.popRssi).outputs = s.outputs := rfl
@[simp] theorem popRssi_regFile : (s.popRssi).regFile = s.regFile := rfl
@[simp] theorem popRssi_resets : (s.popRssi).resets = s.resets := rfl
@[simp] theorem popRssi_opState : (s.popRssi).opState = s.opState := rfl
@[simp] theorem popRssi_powerMode : (s.popRssi).powerMode = s.powerMode := rfl
@[simp] theorem popRssi_tx : (s.popRssi).tx = s.tx := rfl
@[simp] theorem popRssi_lastTxSeq : (s.popRssi).lastTxSeq = s.lastTxSeq := rfl
@[simp] theorem popRssi_rx : (s.popRssi).rx = s.rx := rfl
@[simp] theorem popRssi_rxSeq : (s.popRssi).rxSeq = s.rxSeq := rfl
@[simp] theorem popRssi_lastCrcOk : (s.popRssi).lastCrcOk = s.lastCrcOk := rfl
@[simp] theorem popRssi_aretActive : (s.popRssi).aretActive = s.aretActive := rfl
@[simp] theorem popRssi_csmaRetries : (s.popRssi).csmaRetries = s.csmaRetries := rfl
@[simp] theorem popRssi_frameRetries : (s.popRssi).frameRetries = s.frameRetries := rfl
@[simp] theorem popRssi_awaitingAck : (s.popRssi).awaitingAck = s.awaitingAck := rfl
@[simp] theorem popRssi_sendAck : (s.popRssi).sendAck = s.sendAck := rfl
@[simp] theorem popRssi_ccaStartEnergy : (s.popRssi).ccaStartEnergy = s.ccaStartEnergy := rfl
@[simp] theorem popRssi_pending : (s.popRssi).pending = s.pending := rfl
@[simp] theorem popRssi_now : (s.popRssi).now = s.now := rfl
@[simp] theorem popRssi_pinLevel : (s.popRssi).pinLevel = s.pinLevel := rfl
@[simp] theorem popRssi_env : (s.popRssi).env =
    { s.env with rssi := s.env.rssi.tail, drawn := s.env.drawn + 1 } := rfl
@[simp] theorem popRssi_params : (s.popRssi).params = s.params := rfl
@[simp] theorem popRssi_reg (b : Nat) : (s.popRssi).reg b = s.reg b := rfl

/-! ### popBackoff -/

@[simp] theorem popBackoff_inputs : (s.popBackoff).inputs = s.inputs := rfl
@[simp] theorem popBackoff_outputs : (s.popBackoff).outputs = s.outputs := rfl
@[simp] theorem popBackoff_regFile : (s.popBackoff).regFile = s.regFile := rfl
@[simp] theorem popBackoff_resets : (s.popBackoff).resets = s.resets := rfl
@[simp] theorem popBackoff_opState : (s.popBackoff).opState = s.opState := rfl
@[simp] theorem popBackoff_powerMode : (s.popBackoff).powerMode = s.powerMode := rfl
@[simp] theorem popBackoff_tx : (s.popBackoff).tx = s.tx := rfl
@[simp] theorem popBackoff_lastTxSeq : (s.popBackoff).lastTxSeq = s.lastTxSeq := rfl
@[simp] theorem popBackoff_rx : (s.popBackoff).rx = s.rx := rfl
@[simp] theorem popBackoff_rxSeq : (s.popBackoff).rxSeq = s.rxSeq := rfl
@[simp] theorem popBackoff_lastCrcOk : (s.popBackoff).lastCrcOk = s.lastCrcOk := rfl
@[simp] theorem popBackoff_aretActive : (s.popBackoff).aretActive = s.aretActive := rfl
@[simp] theorem popBackoff_csmaRetries : (s.popBackoff).csmaRetries = s.csmaRetries := rfl
@[simp] theorem popBackoff_frameRetries : (s.popBackoff).frameRetries = s.frameRetries := rfl
@[simp] theorem popBackoff_awaitingAck : (s.popBackoff).awaitingAck = s.awaitingAck := rfl
@[simp] theorem popBackoff_sendAck : (s.popBackoff).sendAck = s.sendAck := rfl
@[simp] theorem popBackoff_ccaStartEnergy : (s.popBackoff).ccaStartEnergy = s.ccaStartEnergy := rfl
@[simp] theorem popBackoff_pending : (s.popBackoff).pending = s.pending := rfl
@[simp] theorem popBackoff_now : (s.popBackoff).now = s.now := rfl
@[simp] theorem popBackoff_pinLevel : (s.popBackoff).pinLevel = s.pinLevel := rfl
@[simp] theorem popBackoff_env : (s.popBackoff).env =
    { s.env with backoff := s.env.backoff.tail, drawn := s.env.drawn + 1 } := rfl
@[simp] theorem popBackoff_params : (s.popBackoff).params = s.params := rfl
@[simp] theorem popBackoff_reg (b : Nat) : (s.popBackoff).reg b = s.reg b := rfl

/-! ### setRxCursor -/

@[simp] theorem setRxCursor_inputs (c : RxCursor) : (s.setRxCursor c).inputs = s.inputs := rfl
@[simp] theorem setRxCursor_outputs (c : RxCursor) : (s.setRxCursor c).outputs = s.outputs := rfl
@[simp] theorem setRxCursor_regFile (c : RxCursor) : (s.setRxCursor c).regFile = s.regFile := rfl
@[simp] theorem setRxCursor_resets (c : RxCursor) : (s.setRxCursor c).resets = s.resets := rfl
@[simp] theorem setRxCursor_opState (c : RxCursor) : (s.setRxCursor c).opState = s.opState := rfl
@[simp] theorem setRxCursor_powerMode (c : RxCursor) : (s.setRxCursor c).powerMode = s.powerMode := rfl
@[simp] theorem setRxCursor_tx (c : RxCursor) : (s.setRxCursor c).tx = s.tx := rfl
@[simp] theorem setRxCursor_lastTxSeq (c : RxCursor) : (s.setRxCursor c).lastTxSeq = s.lastTxSeq := rfl
@[simp] theorem setRxCursor_rx (c : RxCursor) : (s.setRxCursor c).rx = { s.rx with st := c } := rfl
@[simp] theorem setRxCursor_rxSeq (c : RxCursor) : (s.setRxCursor c).rxSeq = s.rxSeq := rfl
@[simp] theorem setRxCursor_lastCrcOk (c : RxCursor) : (s.setRxCursor c).lastCrcOk = s.lastCrcOk := rfl
@[simp] theorem setRxCursor_aretActive (c : RxCursor) : (s.setRxCursor c).aretActive = s.aretActive := rfl
@[simp] theorem setRxCursor_csmaRetries (c : RxCursor) : (s.setRxCursor c).csmaRetries = s.csmaRetries := rfl
@[simp] theorem setRxCursor_frameRetries (c : RxCursor) : (s.setRxCursor c).frameRetries = s.frameRetries := rfl
@[simp] theorem setRxCursor_awaitingAck (c : RxCursor) : (s.setRxCursor c).awaitingAck = s.awaitingAck := rfl
@[simp] theorem setRxCursor_sendAck (c : RxCursor) : (s.setRxCursor c).sendAck = s.sendAck := rfl
@[simp] theorem setRxCursor_ccaStartEnergy (c : RxCursor) : (s.setRxCursor c).ccaStartEnergy = s.ccaStartEnergy := rfl
@[simp] theorem setRxCursor_pending (c : RxCursor) : (s.setRxCursor c).pending = s.pending := rfl
@[simp] theorem setRxCursor_now (c : RxCursor) : (s.setRxCursor c).now = s.now := rfl
@[simp] theorem setRxCursor_pinLevel (c : RxCursor) : (s.setRxCursor c).pinLevel = s.pinLevel := rfl
@[simp] theorem setRxCursor_env (c : RxCursor) : (s.setRxCursor c).env = s.env := rfl
@[simp] theorem setRxCursor_params (c : RxCursor) : (s.setRxCursor c).params = s.params := rfl
@[simp] theorem setRxCursor_reg (c : RxCursor) (b : Nat) : (s.setRxCursor c).reg b = s.reg b := rfl

/-! ### returnToListen -/

@[simp] theorem returnToListen_inputs : (s.returnToListen).inputs = s.inputs := rfl
@[simp] theorem returnToListen_outputs : (s.returnToListen).outputs =
    s.outputs ++ [.powerMode (powerIndex s.opState.listen s.txPwr), .probe s.opState s.opState.listen] := rfl
@[simp] theorem returnToListen_regFile : (s.returnToListen).regFile =
    Memory.write s.regFile Addr.trxStatus (cat 8 (field (s.reg Addr.trxStatus) 5 3) s.opState.listen.code) := rfl
@[simp] theorem returnToListen_resets : (s.returnToListen).resets = s.resets := rfl
@[simp] theorem returnToListen_opState : (s.returnToListen).opState = s.opState.listen := rfl
@[simp] theorem returnToListen_powerMode : (s.returnToListen).powerMode = powerIndex s.opState.listen s.txPwr := rfl
@[simp] theorem returnToListen_tx : (s.returnToListen).tx = s.tx := rfl
@[simp] theorem returnToListen_lastTxSeq : (s.returnToListen).lastTxSeq = s.lastTxSeq := rfl
@[simp] theorem returnToListen_rx : (s.returnToListen).rx = s.rx := rfl
@[simp] theorem returnToListen_rxSeq : (s.returnToListen).rxSeq = s.rxSeq := rfl
@[simp] theorem returnToListen_lastCrcOk : (s.returnToListen).lastCrcOk = s.lastCrcOk := rfl
@[simp] theorem returnToListen_aretActive : (s.returnToListen).aretActive = s.aretActive := rfl
@[simp] theorem returnToListen_csmaRetries : (s.returnToListen).csmaRetries = s.csmaRetries := rfl
@[simp] theorem returnToListen_frameRetries : (s.returnToListen).frameRetries = s.frameRetries := rfl
@[simp] theorem returnToListen_awaitingAck : (s.returnToListen).awaitingAck = s.awaitingAck := rfl
@[simp] theorem returnToListen_sendAck : (s.returnToListen).sendAck = s.sendAck := rfl
@[simp] theorem returnToListen_ccaStartEnergy : (s.returnToListen).ccaStartEnergy = s.ccaStartEnergy := rfl
@[simp] theorem returnToListen_pending : (s.returnToListen).pending = s.pending := rfl
@[simp] theorem returnToListen_now : (s.returnToListen).now = s.now := rfl
@[simp] theorem returnToListen_pinLevel : (s.returnToListen).pinLevel = s.pinLevel := rfl
@[simp] theorem returnToListen_env : (s.returnToListen).env = s.env := rfl
@[simp] theorem returnToListen_params : (s.returnToListen).params = s.params := rfl

/-! ### abortSequence -/

@[simp] theorem abortSequence_inputs : (s.abortSequence).inputs = s.inputs := rfl
@[simp] theorem abortSequence_outputs : (s.abortSequence).outputs = s.outputs := rfl
@[simp] theorem abortSequence_regFile : (s.abortSequence).regFile = s.regFile := rfl
@[simp] theorem abortSequence_resets : (s.abortSequence).resets = s.resets := rfl
@[simp] theorem abortSequence_opState : (s.abortSequence).opState = s.opState := rfl
@[simp] theorem abortSequence_powerMode : (s.abortSequence).powerMode = s.powerMode := rfl
@[simp] theorem abortSequence_tx : (s.abortSequence).tx = s.tx := rfl
@[simp] theorem abortSequence_lastTxSeq : (s.abortSequence).lastTxSeq = s.lastTxSeq := rfl
@[simp] theorem abortSequence_rx : (s.abortSequence).rx = s.rx := rfl
@[simp] theorem abortSequence_rxSeq : (s.abortSequence).rxSeq = s.rxSeq := rfl
@[simp] theorem abortSequence_lastCrcOk : (s.abortSequence).lastCrcOk = s.lastCrcOk := rfl
@[simp] theorem abortSequence_aretActive : (s.abortSequence).aretActive = false := rfl
@[simp] theorem abortSequence_csmaRetries : (s.abortSequence).csmaRetries = s.csmaRetries := rfl
@[simp] theorem abortSequence_frameRetries : (s.abortSequence).frameRetries = s.frameRetries := rfl
@[simp] theorem abortSequence_awaitingAck : (s.abortSequence).awaitingAck = false := rfl
@[simp] theorem abortSequence_sendAck : (s.abortSequence).sendAck = false := rfl
@[simp] theorem abortSequence_ccaStartEnergy : (s.abortSequence).ccaStartEnergy = s.ccaStartEnergy := rfl
@[simp] theorem abortSequence_pending : (s.abortSequence).pending =
    { s.pending with ccaDelay := none, ackTimeout := none, ackTrigger := none } := rfl
@[simp] theorem abortSequence_now : (s.abortSequence).now = s.now := rfl
@[simp] theorem abortSequence_pinLevel : (s.abortSequence).pinLevel = s.pinLevel := rfl
@[simp] theorem abortSequence_env : (s.abortSequence).env = s.env := rfl
@[simp] theorem abortSequence_params : (s.abortSequence).params = s.params := rfl
@[simp] theorem abortSequence_reg (b : Nat) : (s.abortSequence).reg b = s.reg b := rfl

/-! ### What a register reads after an update of the Register File -/

@[simp] theorem setReg_reg (a b : Nat) (v : Byte) : (s.setReg a v).reg b = if b = a then v else s.reg b :=
  readMem_write _ _ _ _ _

@[simp] theorem setFb_reg (i : BitVec 7) (b : Nat) (v : Byte) :
    (s.setFb i v).reg b = if b = fbAddr i then v else s.reg b :=
  readMem_write _ _ _ _ _

@[simp] theorem post_reg (l : IrqLine) (b : Nat) :
    (s.post l).reg b = if b = Addr.irqStatus then s.reg Addr.irqStatus ||| (1#8 <<< l.bitNo) else s.reg b :=
  readMem_write _ _ _ _ _

@[simp] theorem clearIrq_reg (v : Byte) (b : Nat) :
    (s.clearIrq v).reg b = if b = Addr.irqStatus then s.reg Addr.irqStatus &&& ~~~v else s.reg b :=
  readMem_write _ _ _ _ _

@[simp] theorem writeIrqMask_reg (v : Byte) (b : Nat) :
    (s.writeIrqMask v).reg b = if b = Addr.irqMask then v else s.reg b :=
  readMem_write _ _ _ _ _

@[simp] theorem setState_reg (x : OpState) (b : Nat) :
    (s.setState x).reg b =
      if b = Addr.trxStatus then cat 8 (field (s.reg Addr.trxStatus) 5 3) x.code else s.reg b :=
  readMem_write _ _ _ _ _

@[simp] theorem returnToListen_reg (b : Nat) :
    (s.returnToListen).reg b =
      if b = Addr.trxStatus then cat 8 (field (s.reg Addr.trxStatus) 5 3) s.opState.listen.code else s.reg b :=
  readMem_write _ _ _ _ _

@[simp] theorem setTrac_reg (c : BitVec 3) (b : Nat) :
    (s.setTrac c).reg b = if b = Addr.trxState then cat 8 c (field (s.reg Addr.trxState) 0 5) else s.reg b :=
  readMem_write _ _ _ _ _

/-! ### The outputs of an update of the interrupt registers -/

@[simp] theorem post_outputs (l : IrqLine) :
    (s.post l).outputs = s.outputs ++ irqChanges s.irqLevels
      ((s.reg Addr.irqStatus ||| (1#8 <<< l.bitNo)) &&& s.reg Addr.irqMask) := by
  simp [State.post, State.irqLevels]

@[simp] theorem clearIrq_outputs (v : Byte) :
    (s.clearIrq v).outputs = s.outputs ++ irqChanges s.irqLevels
      ((s.reg Addr.irqStatus &&& ~~~v) &&& s.reg Addr.irqMask) := by
  simp [State.clearIrq, State.irqLevels]

@[simp] theorem writeIrqMask_outputs (v : Byte) :
    (s.writeIrqMask v).outputs = s.outputs ++ irqChanges s.irqLevels (s.reg Addr.irqStatus &&& v) := by
  simp [State.writeIrqMask, State.irqLevels]

end Sys2Proof.Machine
end

