-- ==== Sys2Proof/Laws/Ops.lean ====
section
/-! SUPPORT. What the shared operations with a case in them can do: starting and stopping the Transmitter and the Receiver,
drawing a backoff, and the admission of a firing. -/

namespace Sys2Proof.Machine

variable (s : State)

/-! ### startTx: the fields it leaves -/

@[simp] theorem startTx_inputs (k : TxKind) : (s.startTx k).inputs = s.inputs := by unfold State.startTx; split <;> rfl
@[simp] theorem startTx_regFile (k : TxKind) : (s.startTx k).regFile = s.regFile := by unfold State.startTx; split <;> rfl
@[simp] theorem startTx_resets (k : TxKind) : (s.startTx k).resets = s.resets := by unfold State.startTx; split <;> rfl
@[simp] theorem startTx_opState (k : TxKind) : (s.startTx k).opState = s.opState := by unfold State.startTx; split <;> rfl
@[simp] theorem startTx_powerMode (k : TxKind) : (s.startTx k).powerMode = s.powerMode := by unfold State.startTx; split <;> rfl
@[simp] theorem startTx_lastTxSeq (k : TxKind) : (s.startTx k).lastTxSeq = s.lastTxSeq := by unfold State.startTx; split <;> rfl
@[simp] theorem startTx_rx (k : TxKind) : (s.startTx k).rx = s.rx := by unfold State.startTx; split <;> rfl
@[simp] theorem startTx_rxSeq (k : TxKind) : (s.startTx k).rxSeq = s.rxSeq := by unfold State.startTx; split <;> rfl
@[simp] theorem startTx_lastCrcOk (k : TxKind) : (s.startTx k).lastCrcOk = s.lastCrcOk := by unfold State.startTx; split <;> rfl
@[simp] theorem startTx_aretActive (k : TxKind) : (s.startTx k).aretActive = s.aretActive := by unfold State.startTx; split <;> rfl
@[simp] theorem startTx_csmaRetries (k : TxKind) : (s.startTx k).csmaRetries = s.csmaRetries := by unfold State.startTx; split <;> rfl
@[simp] theorem startTx_frameRetries (k : TxKind) : (s.startTx k).frameRetries = s.frameRetries := by unfold State.startTx; split <;> rfl
@[simp] theorem startTx_awaitingAck (k : TxKind) : (s.startTx k).awaitingAck = s.awaitingAck := by unfold State.startTx; split <;> rfl
@[simp] theorem startTx_sendAck (k : TxKind) : (s.startTx k).sendAck = s.sendAck := by unfold State.startTx; split <;> rfl
@[simp] theorem startTx_ccaStartEnergy (k : TxKind) : (s.startTx k).ccaStartEnergy = s.ccaStartEnergy := by unfold State.startTx; split <;> rfl
@[simp] theorem startTx_pending (k : TxKind) : (s.startTx k).pending = s.pending := by unfold State.startTx; split <;> rfl
@[simp] theorem startTx_now (k : TxKind) : (s.startTx k).now = s.now := by unfold State.startTx; split <;> rfl
@[simp] theorem startTx_pinLevel (k : TxKind) : (s.startTx k).pinLevel = s.pinLevel := by unfold State.startTx; split <;> rfl
@[simp] theorem startTx_env (k : TxKind) : (s.startTx k).env = s.env := by unfold State.startTx; split <;> rfl
@[simp] theorem startTx_params (k : TxKind) : (s.startTx k).params = s.params := by unfold State.startTx; split <;> rfl
@[simp] theorem startTx_reg (k : TxKind) (b : Nat) : (s.startTx k).reg b = s.reg b := by unfold State.startTx; split <;> rfl

/-! ### stopTx: the fields it leaves -/

@[simp] theorem stopTx_inputs : (s.stopTx).inputs = s.inputs := by unfold State.stopTx; split <;> rfl
@[simp] theorem stopTx_regFile : (s.stopTx).regFile = s.regFile := by unfold State.stopTx; split <;> rfl
@[simp] theorem stopTx_resets : (s.stopTx).resets = s.resets := by unfold State.stopTx; split <;> rfl
@[simp] theorem stopTx_opState : (s.stopTx).opState = s.opState := by unfold State.stopTx; split <;> rfl
@[simp] theorem stopTx_powerMode : (s.stopTx).powerMode = s.powerMode := by unfold State.stopTx; split <;> rfl
@[simp] theorem stopTx_lastTxSeq : (s.stopTx).lastTxSeq = s.lastTxSeq := by unfold State.stopTx; split <;> rfl
@[simp] theorem stopTx_rx : (s.stopTx).rx = s.rx := by unfold State.stopTx; split <;> rfl
@[simp] theorem stopTx_rxSeq : (s.stopTx).rxSeq = s.rxSeq := by unfold State.stopTx; split <;> rfl
@[simp] theorem stopTx_lastCrcOk : (s.stopTx).lastCrcOk = s.lastCrcOk := by unfold State.stopTx; split <;> rfl
@[simp] theorem stopTx_aretActive : (s.stopTx).aretActive = s.aretActive := by unfold State.stopTx; split <;> rfl
@[simp] theorem stopTx_csmaRetries : (s.stopTx).csmaRetries = s.csmaRetries := by unfold State.stopTx; split <;> rfl
@[simp] theorem stopTx_frameRetries : (s.stopTx).frameRetries = s.frameRetries := by unfold State.stopTx; split <;> rfl
@[simp] theorem stopTx_awaitingAck : (s.stopTx).awaitingAck = s.awaitingAck := by unfold State.stopTx; split <;> rfl
@[simp] theorem stopTx_sendAck : (s.stopTx).sendAck = s.sendAck := by unfold State.stopTx; split <;> rfl
@[simp] theorem stopTx_ccaStartEnergy : (s.stopTx).ccaStartEnergy = s.ccaStartEnergy := by unfold State.stopTx; split <;> rfl
@[simp] theorem stopTx_pending : (s.stopTx).pending = s.pending := by unfold State.stopTx; split <;> rfl
@[simp] theorem stopTx_now : (s.stopTx).now = s.now := by unfold State.stopTx; split <;> rfl
@[simp] theorem stopTx_pinLevel : (s.stopTx).pinLevel = s.pinLevel := by unfold State.stopTx; split <;> rfl
@[simp] theorem stopTx_env : (s.stopTx).env = s.env := by unfold State.stopTx; split <;> rfl
@[simp] theorem stopTx_params : (s.stopTx).params = s.params := by unfold State.stopTx; split <;> rfl
@[simp] theorem stopTx_reg (b : Nat) : (s.stopTx).reg b = s.reg b := by unfold State.stopTx; split <;> rfl

/-! ### startRx: the fields it leaves -/

@[simp] theorem startRx_inputs : (s.startRx).inputs = s.inputs := by unfold State.startRx; split <;> rfl
@[simp] theorem startRx_regFile : (s.startRx).regFile = s.regFile := by unfold State.startRx; split <;> rfl
@[simp] theorem startRx_resets : (s.startRx).resets = s.resets := by unfold State.startRx; split <;> rfl
@[simp] theorem startRx_opState : (s.startRx).opState = s.opState := by unfold State.startRx; split <;> rfl
@[simp] theorem startRx_powerMode : (s.startRx).powerMode = s.powerMode := by unfold State.startRx; split <;> rfl
@[simp] theorem startRx_tx : (s.startRx).tx = s.tx := by unfold State.startRx; split <;> rfl
@[simp] theorem startRx_lastTxSeq : (s.startRx).lastTxSeq = s.lastTxSeq := by unfold State.startRx; split <;> rfl
@[simp] theorem startRx_rxSeq : (s.startRx).rxSeq = s.rxSeq := by unfold State.startRx; split <;> rfl
@[simp] theorem startRx_lastCrcOk : (s.startRx).lastCrcOk = s.lastCrcOk := by unfold State.startRx; split <;> rfl
@[simp] theorem startRx_aretActive : (s.startRx).aretActive = s.aretActive := by unfold State.startRx; split <;> rfl
@[simp] theorem startRx_csmaRetries : (s.startRx).csmaRetries = s.csmaRetries := by unfold State.startRx; split <;> rfl
@[simp] theorem startRx_frameRetries : (s.startRx).frameRetries = s.frameRetries := by unfold State.startRx; split <;> rfl
@[simp] theorem startRx_awaitingAck : (s.startRx).awaitingAck = s.awaitingAck := by unfold State.startRx; split <;> rfl
@[simp] theorem startRx_sendAck : (s.startRx).sendAck = s.sendAck := by unfold State.startRx; split <;> rfl
@[simp] theorem startRx_ccaStartEnergy : (s.startRx).ccaStartEnergy = s.ccaStartEnergy := by unfold State.startRx; split <;> rfl
@[simp] theorem startRx_pending : (s.startRx).pending = s.pending := by unfold State.startRx; split <;> rfl
@[simp] theorem startRx_now : (s.startRx).now = s.now := by unfold State.startRx; split <;> rfl
@[simp] theorem startRx_pinLevel : (s.startRx).pinLevel = s.pinLevel := by unfold State.startRx; split <;> rfl
@[simp] theorem startRx_env : (s.startRx).env = s.env := by unfold State.startRx; split <;> rfl
@[simp] theorem startRx_params : (s.startRx).params = s.params := by unfold State.startRx; split <;> rfl
@[simp] theorem startRx_reg (b : Nat) : (s.startRx).reg b = s.reg b := by unfold State.startRx; split <;> rfl

/-! ### stopRx: the fields it leaves -/

@[simp] theorem stopRx_inputs : (s.stopRx).inputs = s.inputs := by unfold State.stopRx; split <;> rfl
@[simp] theorem stopRx_regFile : (s.stopRx).regFile = s.regFile := by unfold State.stopRx; split <;> rfl
@[simp] theorem stopRx_resets : (s.stopRx).resets = s.resets := by unfold State.stopRx; split <;> rfl
@[simp] theorem stopRx_opState : (s.stopRx).opState = s.opState := by unfold State.stopRx; split <;> rfl
@[simp] theorem stopRx_powerMode : (s.stopRx).powerMode = s.powerMode := by unfold State.stopRx; split <;> rfl
@[simp] theorem stopRx_tx : (s.stopRx).tx = s.tx := by unfold State.stopRx; split <;> rfl
@[simp] theorem stopRx_lastTxSeq : (s.stopRx).lastTxSeq = s.lastTxSeq := by unfold State.stopRx; split <;> rfl
@[simp] theorem stopRx_rxSeq : (s.stopRx).rxSeq = s.rxSeq := by unfold State.stopRx; split <;> rfl
@[simp] theorem stopRx_lastCrcOk : (s.stopRx).lastCrcOk = s.lastCrcOk := by unfold State.stopRx; split <;> rfl
@[simp] theorem stopRx_aretActive : (s.stopRx).aretActive = s.aretActive := by unfold State.stopRx; split <;> rfl
@[simp] theorem stopRx_csmaRetries : (s.stopRx).csmaRetries = s.csmaRetries := by unfold State.stopRx; split <;> rfl
@[simp] theorem stopRx_frameRetries : (s.stopRx).frameRetries = s.frameRetries := by unfold State.stopRx; split <;> rfl
@[simp] theorem stopRx_awaitingAck : (s.stopRx).awaitingAck = s.awaitingAck := by unfold State.stopRx; split <;> rfl
@[simp] theorem stopRx_sendAck : (s.stopRx).sendAck = s.sendAck := by unfold State.stopRx; split <;> rfl
@[simp] theorem stopRx_ccaStartEnergy : (s.stopRx).ccaStartEnergy = s.ccaStartEnergy := by unfold State.stopRx; split <;> rfl
@[simp] theorem stopRx_pending : (s.stopRx).pending = s.pending := by unfold State.stopRx; split <;> rfl
@[simp] theorem stopRx_now : (s.stopRx).now = s.now := by unfold State.stopRx; split <;> rfl
@[simp] theorem stopRx_pinLevel : (s.stopRx).pinLevel = s.pinLevel := by unfold State.stopRx; split <;> rfl
@[simp] theorem stopRx_env : (s.stopRx).env = s.env := by unfold State.stopRx; split <;> rfl
@[simp] theorem stopRx_params : (s.stopRx).params = s.params := by unfold State.stopRx; split <;> rfl
@[simp] theorem stopRx_reg (b : Nat) : (s.stopRx).reg b = s.reg b := by unfold State.stopRx; split <;> rfl

/-! ### popBackoffIfDrawn: the fields it leaves -/

@[simp] theorem popBackoffIfDrawn_inputs : (s.popBackoffIfDrawn).inputs = s.inputs := by unfold State.popBackoffIfDrawn; split <;> rfl
@[simp] theorem popBackoffIfDrawn_outputs : (s.popBackoffIfDrawn).outputs = s.outputs := by unfold State.popBackoffIfDrawn; split <;> rfl
@[simp] theorem popBackoffIfDrawn_regFile : (s.popBackoffIfDrawn).regFile = s.regFile := by unfold State.popBackoffIfDrawn; split <;> rfl
@[simp] theorem popBackoffIfDrawn_resets : (s.popBackoffIfDrawn).resets = s.resets := by unfold State.popBackoffIfDrawn; split <;> rfl
@[simp] theorem popBackoffIfDrawn_opState : (s.popBackoffIfDrawn).opState = s.opState := by unfold State.popBackoffIfDrawn; split <;> rfl
@[simp] theorem popBackoffIfDrawn_powerMode : (s.popBackoffIfDrawn).powerMode = s.powerMode := by unfold State.popBackoffIfDrawn; split <;> rfl
@[simp] theorem popBackoffIfDrawn_tx : (s.popBackoffIfDrawn).tx = s.tx := by unfold State.popBackoffIfDrawn; split <;> rfl
@[simp] theorem popBackoffIfDrawn_lastTxSeq : (s.popBackoffIfDrawn).lastTxSeq = s.lastTxSeq := by unfold State.popBackoffIfDrawn; split <;> rfl
@[simp] theorem popBackoffIfDrawn_rx : (s.popBackoffIfDrawn).rx = s.rx := by unfold State.popBackoffIfDrawn; split <;> rfl
@[simp] theorem popBackoffIfDrawn_rxSeq : (s.popBackoffIfDrawn).rxSeq = s.rxSeq := by unfold State.popBackoffIfDrawn; split <;> rfl
@[simp] theorem popBackoffIfDrawn_lastCrcOk : (s.popBackoffIfDrawn).lastCrcOk = s.lastCrcOk := by unfold State.popBackoffIfDrawn; split <;> rfl
@[simp] theorem popBackoffIfDrawn_aretActive : (s.popBackoffIfDrawn).aretActive = s.aretActive := by unfold State.popBackoffIfDrawn; split <;> rfl
@[simp] theorem popBackoffIfDrawn_csmaRetries : (s.popBackoffIfDrawn).csmaRetries = s.csmaRetries := by unfold State.popBackoffIfDrawn; split <;> rfl
@[simp] theorem popBackoffIfDrawn_frameRetries : (s.popBackoffIfDrawn).frameRetries = s.frameRetries := by unfold State.popBackoffIfDrawn; split <;> rfl
@[simp] theorem popBackoffIfDrawn_awaitingAck : (s.popBackoffIfDrawn).awaitingAck = s.awaitingAck := by unfold State.popBackoffIfDrawn; split <;> rfl
@[simp] theorem popBackoffIfDrawn_sendAck : (s.popBackoffIfDrawn).sendAck = s.sendAck := by unfold State.popBackoffIfDrawn; split <;> rfl
@[simp] theorem popBackoffIfDrawn_ccaStartEnergy : (s.popBackoffIfDrawn).ccaStartEnergy = s.ccaStartEnergy := by unfold State.popBackoffIfDrawn; split <;> rfl
@[simp] theorem popBackoffIfDrawn_pending : (s.popBackoffIfDrawn).pending = s.pending := by unfold State.popBackoffIfDrawn; split <;> rfl
@[simp] theorem popBackoffIfDrawn_now : (s.popBackoffIfDrawn).now = s.now := by unfold State.popBackoffIfDrawn; split <;> rfl
@[simp] theorem popBackoffIfDrawn_pinLevel : (s.popBackoffIfDrawn).pinLevel = s.pinLevel := by unfold State.popBackoffIfDrawn; split <;> rfl
@[simp] theorem popBackoffIfDrawn_params : (s.popBackoffIfDrawn).params = s.params := by unfold State.popBackoffIfDrawn; split <;> rfl
@[simp] theorem popBackoffIfDrawn_reg (b : Nat) : (s.popBackoffIfDrawn).reg b = s.reg b := by unfold State.popBackoffIfDrawn; split <;> rfl

/-! ### The fields they change -/

@[simp] theorem stopTx_tx : s.stopTx.tx = { s.tx with active := false } := by
  unfold State.stopTx
  split
  · rfl
  · rename_i h
    cases htx : s.tx
    simp_all

@[simp] theorem stopTx_outputs :
    s.stopTx.outputs = s.outputs ++ [if s.tx.active then .endTransmit else .diag .txAlreadyStopped] := by
  unfold State.stopTx
  split <;> simp_all

@[simp] theorem startRx_rx :
    s.startRx.rx = { s.rx with active := true, st := if s.rx.active then s.rx.st else .sfdScan } := by
  unfold State.startRx
  split
  · rename_i h
    cases hrx : s.rx
    simp_all
  · simp_all

@[simp] theorem startRx_outputs :
    s.startRx.outputs =
      s.outputs ++ [if s.rx.active then .diag .rxAlreadyStarted else .beginReceive (Config.freq s.channel)] := by
  unfold State.startRx
  split <;> simp_all

@[simp] theorem stopRx_rx :
    s.stopRx.rx = { s.rx with active := false, st := if s.rx.active then .sfdScan else s.rx.st } := by
  unfold State.stopRx
  split
  · simp_all
  · rename_i h
    cases hrx : s.rx
    simp_all

@[simp] theorem stopRx_outputs :
    s.stopRx.outputs = s.outputs ++ [if s.rx.active then .endReceive else .diag .rxAlreadyStopped] := by
  unfold State.stopRx
  split <;> simp_all

theorem startTx_tx_active (k : TxKind) (h : s.tx.active = true) : (s.startTx k).tx = s.tx := by
  simp [State.startTx, h]

theorem startTx_tx_stopped (k : TxKind) (h : s.tx.active = false) :
    (s.startTx k).tx =
      { active := true, st := .preamble, cnt := 0, len := 0#8, crc := 0#16, isAck := decide (k = .ack), ackReq := false,
        ackSeq := if k = .ack then s.rxSeq else s.tx.ackSeq,
        leadUntil := s.now + s.params.lead s.txPwr } := by
  simp [State.startTx, h]

theorem startTx_outputs_stopped (k : TxKind) (h : s.tx.active = false) :
    (s.startTx k).outputs = s.outputs ++ [.beginTransmit s.txPwr (Config.freq s.channel)] := by
  simp [State.startTx, h]

/-! ### Events and admission -/

@[simp] theorem pending_get_set (p : Pending) (e e' : Event) (d : Option Nat) :
    (p.set e d).get e' = if e' = e then d else p.get e' := by
  cases e <;> cases e' <;> rfl

/-- A firing that answers a next state was due, and that state is the handler's after the event is cleared. -/
theorem fire_next (e : Event) (handler : State → State) (t : State) (h : fire e handler s = .next t) :
    s.pending.get e = some s.now ∧ t = handler (s.cancel e) := by
  unfold fire at h
  split at h
  · exact ⟨by assumption, by cases h; rfl⟩
  · cases h

/-- A clock at `t` passes no event: every pending one is due at `t` or later. -/
theorem allows_iff (p : Pending) (t : Nat) :
    p.allows t = true ↔ ∀ e due, p.get e = some due → t ≤ due := by
  constructor
  · intro h e due hd
    simp only [Pending.allows, List.all_eq_true] at h
    have := h e (by cases e <;> simp)
    simpa [hd] using this
  · intro h
    simp only [Pending.allows, List.all_eq_true]
    intro e _
    cases hd : p.get e with
    | none => rfl
    | some due => simpa [hd] using h e due hd

/-! ### The status byte -/

@[simp] theorem status_code (v : BitVec 3) (x : OpState) : field (cat 8 v x.code) 0 5 = x.code := by
  simp [field_cat_low]

/-- An answer of `draw_backoff` lies in its range (45_csma_ack.md R326). -/
theorem intoRange_mem (lo hi v : Nat) (h : lo < hi) : lo ≤ intoRange lo hi v ∧ intoRange lo hi v < hi := by
  unfold intoRange
  have := Nat.mod_lt (v - lo) (show 0 < hi - lo by omega)
  omega

/-- An answer already in the range stays as it is. -/
theorem intoRange_id (lo hi v : Nat) (h : lo ≤ v) (h' : v < hi) : intoRange lo hi v = v := by
  unfold intoRange
  rw [Nat.mod_eq_of_lt (by omega)]
  omega

end Sys2Proof.Machine
end

