-- ==== Sys2Proof/Laws/Answers.lean ====
section
/-! SUPPORT. What a proof of an `Answers` statement needs: equality of states field by field, the outputs of a post, the bytes of a
delivery, and what the shared shapes of the meanings answer. -/

namespace Sys2Proof

theorem bit_or {w : Nat} (x y : BitVec w) (i : Nat) : bit (x ||| y) i = (bit x i || bit y i) := by simp [bit]

theorem bit_and {w : Nat} (x y : BitVec w) (i : Nat) : bit (x &&& y) i = (bit x i && bit y i) := by simp [bit]

theorem bit_not (x : Byte) (i : Nat) : bit (~~~x) i = (decide (i < 8) && !bit x i) := by simp [bit]

/-- Two 16-bit values are equal when their bytes are. -/
theorem le16_eq (a b c d : Byte) : le16 a b = le16 c d ↔ a = c ∧ b = d := by
  constructor
  · intro h
    have low : field (le16 a b) 0 8 = field (le16 c d) 0 8 := by rw [h]
    have high : field (le16 a b) 8 8 = field (le16 c d) 8 8 := by rw [h]
    unfold le16 at low high
    rw [field_cat_low _ _ _ _ _ (by omega) (by omega), field_cat_low _ _ _ _ _ (by omega) (by omega)] at low
    rw [field_cat_high _ _ _ _ _ (by omega) (by omega), field_cat_high _ _ _ _ _ (by omega) (by omega)] at high
    simp at low high
    exact ⟨low, high⟩
  · rintro ⟨rfl, rfl⟩
    rfl

/-- Bit `n` of a 64-bit value is bit `n % 8` of its byte `n / 8`. -/
theorem bit_le64 (l : List Byte) : ∀ n, n < 64 → bit (le64 l) n = bit (l.getD (n / 8) 0#8) (n % 8) := by
  induction l with
  | nil =>
    intro n _
    simp [le64, bit]
  | cons b bs ih =>
    intro n hn
    have e : le64 (b :: bs) = (le64 bs <<< 8) ||| b.setWidth 64 := rfl
    rw [e, bit_or]
    by_cases h : n < 8
    · have h1 : n / 8 = 0 := by omega
      have h2 : n % 8 = n := by omega
      simp [h1, h2, bit, h]
      omega
    · have h1 : n / 8 = (n - 8) / 8 + 1 := by omega
      have h2 : n % 8 = (n - 8) % 8 := by omega
      have i := ih (n - 8) (by omega)
      have hb : bit (BitVec.setWidth 64 b) n = false := by
        simp only [bit, BitVec.getLsbD_setWidth, Bool.and_eq_false_iff]
        exact .inr (BitVec.getLsbD_of_ge _ _ (by omega))
      rw [h1, h2, List.getD_cons_succ, ← i, hb]
      simp only [bit, BitVec.getLsbD_shiftLeft]
      simp [h, hn]

/-- Two 64-bit values are equal when their bytes are. -/
theorem le64_eq (l m : List Byte) (hl : l.length = 8) (hm : m.length = 8) : le64 l = le64 m ↔ l = m := by
  constructor
  · intro h
    apply List.ext_getElem (by omega)
    intro k h1 h2
    apply ext_bit
    intro j hj
    have a := bit_le64 l (8 * k + j) (by omega)
    have b := bit_le64 m (8 * k + j) (by omega)
    have e1 : (8 * k + j) / 8 = k := by omega
    have e2 : (8 * k + j) % 8 = j := by omega
    rw [e1, e2] at a b
    rw [h] at a
    simp [List.getD_eq_getElem?_getD, h1, h2] at a b
    rw [← a, ← b]
  · rintro rfl
    rfl

namespace Machine

/-! ### States field by field -/

/-- Two states that agree in every field but the Register File. -/
theorem like_of_fields {t u : State}
    (h : t.inputs = u.inputs ∧ t.outputs = u.outputs ∧ t.resets = u.resets ∧ t.opState = u.opState ∧
      t.powerMode = u.powerMode ∧ t.tx = u.tx ∧ t.lastTxSeq = u.lastTxSeq ∧ t.rx = u.rx ∧ t.rxSeq = u.rxSeq ∧
      t.lastCrcOk = u.lastCrcOk ∧ t.aretActive = u.aretActive ∧ t.csmaRetries = u.csmaRetries ∧
      t.frameRetries = u.frameRetries ∧ t.awaitingAck = u.awaitingAck ∧ t.sendAck = u.sendAck ∧
      t.ccaStartEnergy = u.ccaStartEnergy ∧ t.pending = u.pending ∧ t.now = u.now ∧ t.pinLevel = u.pinLevel ∧
      t.env = u.env ∧ t.params = u.params) :
    t = { u with regFile := t.regFile } := by
  cases t
  cases u
  simp_all

/-! ### Posting a line -/

theorem filter_map_flatten {α β : Type} (p : α → Bool) (f : α → β) (L : List α) :
    (L.filter p).map f = (L.map (fun l => if p l then [f l] else [])).flatten := by
  induction L with
  | nil => rfl
  | cons x L ih => by_cases h : p x <;> simp [h, ih]

/-- The model's list of line changes is the one the claims write out line by line. -/
theorem irqChanges_eq (b a : Byte) : irqChanges b a = lineChanges b a := by
  have one : ∀ (l : IrqLine) (x y : Bool), (if (x != y) = true then [Output.irqLine l y] else []) = lineChange l x y := by
    intro l x y
    cases x <;> cases y <;> rfl
  simp only [irqChanges, filter_map_flatten, one, irqLinesDown, List.map_cons, List.map_nil, IrqLine.bitNo,
    List.flatten_cons, List.flatten_nil, List.append_nil, lineChanges, List.append_assoc]

theorem lineChange_same (l : IrqLine) (x : Bool) : lineChange l x x = [] := by simp [lineChange]

/-- Setting one status bit moves at most its own line. -/
theorem lineChanges_post (st m : Byte) (l : IrqLine) :
    lineChanges (st &&& m) ((st ||| (1#8 <<< l.bitNo)) &&& m) =
      if bit m l.bitNo = true ∧ bit st l.bitNo = false then [.irqLine l true] else [] := by
  have one : ∀ i, i < 8 → bit (1#8 <<< l.bitNo) i = decide (i = l.bitNo) := by
    cases l <;> decide
  have after : ∀ i, i < 8 →
      bit ((st ||| (1#8 <<< l.bitNo)) &&& m) i = if i = l.bitNo then bit m i else bit (st &&& m) i := by
    intro i hi
    rw [bit_and, bit_or, one i hi]
    by_cases h : i = l.bitNo <;> simp [h, bit_and]
  have own : ∀ x y : Bool, lineChange l (x && y) y = if y = true ∧ x = false then [.irqLine l true] else [] := by
    intro x y
    cases x <;> cases y <;> rfl
  rw [← own, ← bit_and]
  simp only [lineChanges, after 7 (by decide), after 6 (by decide), after 5 (by decide), after 4 (by decide),
    after 3 (by decide), after 2 (by decide), after 1 (by decide), after 0 (by decide)]
  cases l <;> simp [IrqLine.bitNo, lineChange_same]

/-- A post outputs the rise of its line, if its line rises. -/
theorem post_outputs_rise (s : State) (l : IrqLine) : (s.post l).outputs = s.outputs ++ s.rise l := by
  rw [post_outputs, irqChanges_eq]
  exact congrArg (s.outputs ++ ·) (lineChanges_post _ _ _)

/-! ### Deliveries -/

/-- A byte of the frame buffer written. -/
theorem setFb_reg_at (s : State) (n : Nat) (v : Byte) (a : Nat) (h : n < 128) :
    (s.setFb (BitVec.ofNat 7 n) v).reg a = if a = 0x180 + n then v else s.reg a := by
  have e : fbAddr (BitVec.ofNat 7 n) = 0x180 + n := by simp [fbAddr, Nat.mod_eq_of_lt h]
  rw [setFb_reg, e]

/-- A byte of the frame buffer read. -/
theorem fb_at (s : State) (n : Nat) (h : n < 128) : s.fb (BitVec.ofNat 7 n) = s.reg (0x180 + n) := by
  simp [State.fb, fbAddr, Nat.mod_eq_of_lt h]

/-- The RSSI sample changes one register and the Environment. -/
theorem sampleRssi_like (s : State) :
    s.sampleRssi = { s with regFile := s.sampleRssi.regFile, env := s.env.afterRssi } := rfl

theorem sampleRssi_reg (s : State) (a : Nat) : s.sampleRssi.reg a = s.heardRegs a := by
  simp [State.sampleRssi, State.heardRegs, low5_eq]
  split_ifs <;> simp_all

/-- A locked byte delivered to a started Receiver. -/
theorem exec_rxbL (s : State) (b : Byte) (h : s.rx.active = true) :
    exec (.rxbL b) s = .next (s.sampleRssi.receiveByte b) := by
  show execRxbL b s = _
  simp [execRxbL, State.deliver, h]

/-- An unlocked byte delivered to a started Receiver. -/
theorem exec_rxbU (s : State) (b : Byte) (h : s.rx.active = true) : exec (.rxbU b) s = .next s.sampleRssi.lockLost := by
  show execRxbU b s = _
  simp [execRxbU, State.deliver, h]

/-- The CRC check changes the Register File and `lastCRCok`. -/
theorem crcCheck_like (s : State) (b : Byte) :
    s.crcCheck b = { s with lastCrcOk := s.crcMatches b, regFile := (s.crcCheck b).regFile } := by
  unfold State.crcCheck
  dsimp only
  split <;> rfl

theorem markCrc_reg (s : State) (ok : Bool) (a : Nat) :
    (s.markCrc ok).reg a =
      if a = Addr.phyRssi then cat 8 (bitOf ok) (field (s.reg Addr.phyRssi) 0 7) else s.reg a :=
  readMem_write _ _ _ _ _

/-- The registers after the CRC check of a frame that fits the frame buffer. -/
theorem crcCheck_reg (s : State) (b : Byte) (a : Nat) (h : s.rx.len.toNat < 128) :
    (s.crcCheck b).reg a =
      if s.awaitingAck = false ∧ a = 0x180 + s.rx.len.toNat then b else (s.markCrc (s.crcMatches b)).reg a := by
  unfold State.crcCheck
  have e : (s.markCrc (s.crcMatches b)).awaitingAck = s.awaitingAck := rfl
  have l : (s.markCrc (s.crcMatches b)).rx = s.rx := rfl
  simp only [e, l]
  cases hw : s.awaitingAck
  · simp [-BitVec.ofNat_toNat, setFb_reg_at _ _ _ _ h]
  · simp

/-! ### Pulls -/

/-- An admitted pull of an active Transmitter. -/
theorem exec_pull (s : State) (h : s.tx.active = true) (hl : s.tx.leadUntil ≤ s.now) :
    exec .pull s = .next s.pullActive := by
  show execPull s = _
  simp [execPull, h, hl]

theorem npay_pos (l : Byte) : 0 < npay l ↔ 3 ≤ l.toNat := by
  unfold npay
  split <;> omega

/-! ### Commands -/

/-- Outside OFF, SLEEP and TRANSITION a write of TRX_STATE stores the code and runs its command. -/
theorem writeTrxState_runs (s : State) (c : BitVec 5) (h1 : s.opState ≠ .off) (h2 : s.opState ≠ .sleep)
    (h3 : s.opState ≠ .transition) :
    s.writeTrxState c =
      (s.setReg Addr.trxState (cat 8 (field (s.reg Addr.trxState) 5 3) c)).runCommand (commandOfCode c) := by
  simp [State.writeTrxState, State.applyCommand, h1, h2, h3]

/-- Outside the transmitting states the Transmitter is stopped. -/
theorem Sequenced_tx_stopped (s : State) (h : s.Sequenced) (h1 : s.opState ≠ .busyRxAack) (h2 : s.opState ≠ .busyTx)
    (h3 : s.opState ≠ .busyTxAret) : s.tx.active = false := by
  by_contra h'
  have := h.2.1 (by simpa using h')
  simp_all

/-- Everything the return to the listen state does, in the statements' terms (R243, R247, R251, R252). -/
theorem returnToListen_answers (s : State) {x : OpState} {code : Byte} (h : (s.opState, x, code) ∈ listenRows) :
    Answers (.next s.returnToListen) (s.entering x 3) (withStatus s.reg code) := by
  have hx : s.opState.listen = x ∧ x.code.setWidth 8 = code ∧ powerIndex x s.txPwr = 3 := by
    simp only [listenRows, List.mem_cons, Prod.mk.injEq, List.not_mem_nil, or_false] at h
    obtain ⟨hs, rfl, rfl⟩ | ⟨hs, rfl, rfl⟩ | ⟨hs, rfl, rfl⟩ | ⟨hs, rfl, rfl⟩ := h <;> exact ⟨by rw [hs]; rfl, rfl, rfl⟩
  obtain ⟨rfl, rfl, hp⟩ := hx
  refine ⟨_, rfl, ?_, fun a => ?_⟩
  · exact like_of_fields (by simp [State.entering, hp])
  · rw [returnToListen_reg, low5_eq, withStatus]
    split <;> simp_all

end Machine

end Sys2Proof
end

