-- ==== Sys2Proof/Laws/PerInstr.lean ====
section
/-! SUPPORT. What is stated of every constructor of Instr, one lemma each: the family TableRow says that the word of a
well-formed input carries the match of its row of spec/opcode_table.json under the row's mask. -/

namespace Sys2Proof.Laws.TableRow

set_option Elab.async false

/-- The word of a well-formed input matches its row of the opcode table. -/
def Statement (i : Instr) : Prop := i.wf = true → encode i &&& (tableRow i).2 = (tableRow i).1

/-- A word whose masked bits are the match bits: checked bit by bit. -/
theorem of_bits {w m k : InputWord} (h : ∀ i, i < 20 → (bit w i && bit m i) = bit k i) : w &&& m = k := by
  apply ext_bit
  intro i hi
  simpa [bit] using h i hi

theorem rd (addr : RegAddr) : Statement (.rd addr) := by
  intro _
  apply of_bits
  intro i hi
  interval_cases i <;> simp [encode, tableRow, kindWord, bit_cat] <;> simp [bit]

theorem wr (addr : RegAddr) (data : Byte) : Statement (.wr addr data) := by
  intro _
  apply of_bits
  intro i hi
  interval_cases i <;> simp [encode, tableRow, writeWord, kindWord, bit_cat] <;> simp [bit]

theorem wrFb (index : BitVec 7) (data : Byte) : Statement (.wrFb index data) := by
  intro _
  apply of_bits
  intro i hi
  interval_cases i <;> simp [encode, tableRow, writeWord, kindWord, bit_cat] <;> simp [bit]

theorem cmdNop : Statement .cmdNop := fun _ => rfl

theorem cmdTxStart : Statement .cmdTxStart := fun _ => rfl

theorem cmdForceTrxOff : Statement .cmdForceTrxOff := fun _ => rfl

theorem cmdForcePllOn : Statement .cmdForcePllOn := fun _ => rfl

theorem cmdRxOn : Statement .cmdRxOn := fun _ => rfl

theorem cmdTrxOff : Statement .cmdTrxOff := fun _ => rfl

theorem cmdPllOn : Statement .cmdPllOn := fun _ => rfl

theorem cmdRxAackOn : Statement .cmdRxAackOn := fun _ => rfl

theorem cmdTxAretOn : Statement .cmdTxAretOn := fun _ => rfl

theorem cmdInvalid01 : Statement .cmdInvalid01 := fun _ => rfl

theorem cmdInvalid05 : Statement .cmdInvalid05 := fun _ => rfl

theorem cmdInvalid07 : Statement .cmdInvalid07 := fun _ => rfl

theorem cmdInvalid0A : Statement .cmdInvalid0A := fun _ => rfl

theorem cmdInvalid0B : Statement .cmdInvalid0B := fun _ => rfl

theorem cmdInvalid0C : Statement .cmdInvalid0C := fun _ => rfl

theorem cmdInvalid0D : Statement .cmdInvalid0D := fun _ => rfl

theorem cmdInvalid0E : Statement .cmdInvalid0E := fun _ => rfl

theorem cmdInvalid0F : Statement .cmdInvalid0F := fun _ => rfl

theorem cmdInvalid10 : Statement .cmdInvalid10 := fun _ => rfl

theorem cmdInvalid11 : Statement .cmdInvalid11 := fun _ => rfl

theorem cmdInvalid12 : Statement .cmdInvalid12 := fun _ => rfl

theorem cmdInvalid13 : Statement .cmdInvalid13 := fun _ => rfl

theorem cmdInvalid14 : Statement .cmdInvalid14 := fun _ => rfl

theorem cmdInvalid15 : Statement .cmdInvalid15 := fun _ => rfl

theorem cmdInvalid17 : Statement .cmdInvalid17 := fun _ => rfl

theorem cmdInvalid18 : Statement .cmdInvalid18 := fun _ => rfl

theorem cmdInvalid1A : Statement .cmdInvalid1A := fun _ => rfl

theorem cmdInvalid1B : Statement .cmdInvalid1B := fun _ => rfl

theorem cmdInvalid1C : Statement .cmdInvalid1C := fun _ => rfl

theorem cmdInvalid1D : Statement .cmdInvalid1D := fun _ => rfl

theorem cmdInvalid1E : Statement .cmdInvalid1E := fun _ => rfl

theorem cmdInvalid1F : Statement .cmdInvalid1F := fun _ => rfl

theorem cca (mode : BitVec 2) (channel : BitVec 5) : Statement (.cca mode channel) := by
  intro _
  apply of_bits
  intro i hi
  interval_cases i <;> simp [encode, tableRow, writeWord, kindWord, bit_cat] <;> simp [bit, Addr.phyCcCca]

theorem wrPhyCcCca (mode : BitVec 2) (channel : BitVec 5) : Statement (.wrPhyCcCca mode channel) := by
  intro _
  apply of_bits
  intro i hi
  interval_cases i <;> simp [encode, tableRow, writeWord, kindWord, bit_cat] <;> simp [bit, Addr.phyCcCca]

theorem trxrst : Statement .trxrst := fun _ => rfl

theorem wrTrxprSlptr (upper : BitVec 6) (slptr : Bool) : Statement (.wrTrxprSlptr upper slptr) := by
  intro _
  apply of_bits
  intro i hi
  interval_cases i <;> simp [encode, tableRow, writeWord, kindWord, bit_cat] <;> simp [bit, Addr.trxpr]

theorem clrirq (clearMask : Byte) : Statement (.clrirq clearMask) := by
  intro _
  apply of_bits
  intro i hi
  interval_cases i <;> simp [encode, tableRow, writeWord, kindWord, bit_cat] <;> simp [bit, Addr.irqStatus]

theorem wrIrqMask (mask : Byte) : Statement (.wrIrqMask mask) := by
  intro _
  apply of_bits
  intro i hi
  interval_cases i <;> simp [encode, tableRow, writeWord, kindWord, bit_cat] <;> simp [bit, Addr.irqMask]

theorem wrRoTrxStatus : Statement .wrRoTrxStatus := fun _ => rfl

theorem wrRoPhyRssi : Statement .wrRoPhyRssi := fun _ => rfl

theorem wrRoPhyEdLevel : Statement .wrRoPhyEdLevel := fun _ => rfl

theorem wrRoTstRxLength : Statement .wrRoTstRxLength := fun _ => rfl

theorem pull : Statement .pull := fun _ => rfl

theorem rxbL (byte : Byte) : Statement (.rxbL byte) := by
  intro _
  apply of_bits
  intro i hi
  interval_cases i <;> simp [encode, tableRow, kindWord, bit_cat] <;> simp [bit]

theorem rxbU (byte : Byte) : Statement (.rxbU byte) := by
  intro _
  apply of_bits
  intro i hi
  interval_cases i <;> simp [encode, tableRow, kindWord, bit_cat] <;> simp [bit]

theorem fireCcaDelay : Statement .fireCcaDelay := fun _ => rfl

theorem fireWakeup : Statement .fireWakeup := fun _ => rfl

theorem fireAckTimeout : Statement .fireAckTimeout := fun _ => rfl

theorem fireAckTrigger : Statement .fireAckTrigger := fun _ => rfl

theorem pin1 : Statement .pin1 := fun _ => rfl

theorem pin0 : Statement .pin0 := fun _ => rfl

theorem resetPor : Statement .resetPor := fun _ => rfl

theorem resetExplicit : Statement .resetExplicit := fun _ => rfl

theorem adv (n : BitVec 17) : Statement (.adv n) := by
  intro _
  apply of_bits
  intro i hi
  interval_cases i <;> simp [encode, tableRow, kindWord, bit_cat] <;> simp [bit]

end Sys2Proof.Laws.TableRow
end

