-- ==== Sys2Proof/Tests/Slice0.lean ====
section
/-! SUPPORT. The model's own tests: the WellFormed smoke test, every constructor's decoding shown by a word written out from
30_encoding.md R110 to R122, single steps whose expected results are vectors of 95_test_vectors.md, and one witness for the
hypotheses of every statement. -/

namespace Sys2Proof.Tests

open Sys2Proof Sys2Proof.Machine

/-! ### WellFormed -/

/-- WR has no address of the frame buffer: 0x180 is refused, 0x17F accepted. -/
theorem test_wf_refuses_frame_buffer :
    Instr.wf (.wr 0x180#9 0#8) = false ∧ Instr.wf (.wr 0x1FF#9 0#8) = false ∧ Instr.wf (.wr 0x17F#9 0#8) = true := by decide

/-- WR has no address with a row of its own: each of the nine is refused. -/
theorem test_wf_refuses_special_registers :
    [0x139#9, 0x141#9, 0x142#9, 0x146#9, 0x147#9, 0x148#9, 0x14E#9, 0x14F#9, 0x17B#9].all
      (fun a => !Instr.wf (.wr a 0#8)) = true := by decide

/-! ### Decoding: words written out by hand -/

theorem test_decode_reads :
    decode 0b000_1_0110_1111_0000_0000#20 = .rd 0x16F#9 ∧ decode 0x14FFF#20 = .rd 0x14F#9 := by decide

theorem test_decode_plain_writes :
    decode 0b001_1_0000_0000_0000_0101#20 = .wr 0x100#9 0x05#8 ∧ decode 0x36234#20 = .wr 0x162#9 0x34#8 ∧
    decode 0b001_1_1000_0000_0000_1100#20 = .wrFb 0#7 0x0C#8 ∧ decode 0x3FFAB#20 = .wrFb 0x7F#7 0xAB#8 := by decide

/-- The data bits 7:5 of a command write are ignored: the last word sets them. -/
theorem test_decode_commands :
    decode 0b001_1_0100_0010_0000_0000#20 = .cmdNop ∧ decode 0x34202#20 = .cmdTxStart ∧
    decode 0x34203#20 = .cmdForceTrxOff ∧ decode 0x34204#20 = .cmdForcePllOn ∧ decode 0x34206#20 = .cmdRxOn ∧
    decode 0x34208#20 = .cmdTrxOff ∧ decode 0x34209#20 = .cmdPllOn ∧ decode 0x34216#20 = .cmdRxAackOn ∧
    decode 0x342F9#20 = .cmdTxAretOn := by decide

theorem test_decode_invalid_commands_low :
    decode 0x34201#20 = .cmdInvalid01 ∧ decode 0x34205#20 = .cmdInvalid05 ∧ decode 0x34207#20 = .cmdInvalid07 ∧
    decode 0x3420A#20 = .cmdInvalid0A ∧ decode 0x3420B#20 = .cmdInvalid0B ∧ decode 0x3420C#20 = .cmdInvalid0C ∧
    decode 0x3420D#20 = .cmdInvalid0D ∧ decode 0x3420E#20 = .cmdInvalid0E ∧ decode 0x3420F#20 = .cmdInvalid0F := by decide

theorem test_decode_invalid_commands_high :
    decode 0x34210#20 = .cmdInvalid10 ∧ decode 0x34211#20 = .cmdInvalid11 ∧ decode 0x34212#20 = .cmdInvalid12 ∧
    decode 0x34213#20 = .cmdInvalid13 ∧ decode 0x34214#20 = .cmdInvalid14 ∧ decode 0x34215#20 = .cmdInvalid15 ∧
    decode 0x34217#20 = .cmdInvalid17 ∧ decode 0x34218#20 = .cmdInvalid18 ∧ decode 0x3421A#20 = .cmdInvalid1A ∧
    decode 0x3421B#20 = .cmdInvalid1B ∧ decode 0x3421C#20 = .cmdInvalid1C ∧ decode 0x3421D#20 = .cmdInvalid1D ∧
    decode 0x3421E#20 = .cmdInvalid1E ∧ decode 0x342FF#20 = .cmdInvalid1F := by decide

theorem test_decode_special_writes :
    decode 0x348AB#20 = .cca 1#2 11#5 ∧ decode 0x3484B#20 = .wrPhyCcCca 2#2 11#5 ∧ decode 0x33903#20 = .trxrst ∧
    decode 0b001_1_0011_1001_1111_1110#20 = .wrTrxprSlptr 0x3F#6 true ∧ decode 0x33900#20 = .wrTrxprSlptr 0#6 false ∧
    decode 0x34F40#20 = .clrirq 0x40#8 ∧ decode 0x34E08#20 = .wrIrqMask 0x08#8 := by decide

theorem test_decode_read_only_writes :
    decode 0x341FF#20 = .wrRoTrxStatus ∧ decode 0x34600#20 = .wrRoPhyRssi ∧ decode 0x34755#20 = .wrRoPhyEdLevel ∧
    decode 0x37B01#20 = .wrRoTstRxLength := by decide

theorem test_decode_medium_inputs :
    decode 0b010_0_0000_0000_0000_0000#20 = .pull ∧ decode 0x5FFFF#20 = .pull ∧
    decode 0b011_0_0000_0001_0111_1010#20 = .rxbL 0x7A#8 ∧ decode 0x6007A#20 = .rxbU 0x7A#8 := by decide

theorem test_decode_clock_inputs :
    decode 0b100_0_0000_0000_0000_0000#20 = .fireCcaDelay ∧ decode 0x80001#20 = .fireWakeup ∧
    decode 0x80002#20 = .fireAckTimeout ∧ decode 0x80003#20 = .fireAckTrigger ∧ decode 0x9FFFD#20 = .fireWakeup ∧
    decode 0b111_1_1111_1111_1111_1111#20 = .adv 0x1FFFF#17 := by decide

theorem test_decode_pin_and_reset :
    decode 0xA0001#20 = .pin1 ∧ decode 0xA0000#20 = .pin0 ∧ decode 0xC0000#20 = .resetPor ∧
    decode 0xC0001#20 = .resetExplicit := by decide

theorem test_decode_table_word :
    decodeTableWord 20 0x34208 = some .cmdTrxOff ∧ decodeNat 0x100000 = .error .widerThan20Bits := ⟨rfl, rfl⟩

/-! ### Small states -/

/-- The test parameters of 95_test_vectors.md, section 0. -/
def tp : Params where
  symbolCycles := 1
  tLead := []
  tCca := 8
  tCcaManual := 8
  tAckWait := 54
  tAckTurn := 12
  tAckTurnFast := 2
  tWakeup := 10
  backoffFixed := 0
  reservedFtPolicy := .reject
  extBroadcast := 0xFFFFFFFFFFFFFFFF#64

/-- The reset state with the test parameters and a few answers of the Environment: energy 20 then 5, RSSI 0. -/
def rst : State :=
  { State.reset with outputs := [], params := tp, env := { energy := [20, 5, 0, 0], rssi := [0#5, 0#5], backoff := [10], drawn := 0 } }

/-- The reset state moved into OperatingState `x`. -/
def inState (x : OpState) : State := { rst.setReg 0x141 (x.code.setWidth 8) with opState := x }

/-- A started Receiver at cursor `c`, in the frame F of 95_test_vectors.md 3.5 (length 12). -/
def receiving (x : OpState) (c : RxCursor) (pos : Nat) : State :=
  { inState x with rx := { Rx.reset with active := true, st := c, len := 12#8, pos := pos } }

/-- A started Transmitter at cursor `c` of a frame of length 5, the CRC accumulator that of 02 00 56 (V-CRC-3). -/
def sending (x : OpState) (c : TxCursor) (cnt : Nat) (ack : Bool) : State :=
  { inState x with
    tx := { Tx.reset with active := true, st := c, cnt := cnt, len := 5#8, crc := 0xD041#16, isAck := ack, ackSeq := 0x56#8 }
    aretActive := decide (x = .busyTxAret) }

/-- The state waiting for an ACK with sequence number 0x2A (95_test_vectors.md 3.9). -/
def awaiting (c : RxCursor) (pos : Nat) : State :=
  { receiving .busyTxAret c pos with
    aretActive := true, awaitingAck := true, frameRetries := 1#4, lastTxSeq := 0x2A#8,
    pending := { Pending.empty with ackTimeout := some 0 } }

/-- The next state, or the state itself where there is none. -/
def after (i : Instr) (s : State) : State :=
  match exec i s with
  | .next t => t
  | .fault _ => s
  | .refused _ => s

/-- The outputs of an input on a state that has none yet. -/
def outputsOf (i : Instr) (s : State) : Option (List Output) :=
  match exec i s with
  | .next t => some t.outputs
  | .fault _ => none
  | .refused _ => none

/-- The outputs that are no diagnostic. -/
def plainOutputs (i : Instr) (s : State) : Option (List Output) :=
  (outputsOf i s).map (fun os => os.filter (fun o => match o with
    | .diag _ => false
    | .readData _ | .beginTransmit _ _ | .endTransmit | .beginReceive _ | .endReceive | .txByte _ | .irqLine _ _
    | .probe _ _ | .powerMode _ => true))

/-! ### One step, expected results of 95_test_vectors.md -/

/-- V-MEM-1. -/
theorem test_read_reset_values :
    outputsOf (.rd 0x16F#9) rst = some [.readData 0x53#8] ∧ outputsOf (.rd 0x148#9) rst = some [.readData 0x2B#8] ∧
    outputsOf (.rd 0x141#9) rst = some [.readData 0x00#8] := by decide

/-- V-MEM-3; the last frame buffer byte. -/
theorem test_plain_writes :
    (after (.wr 0x100#9 0x05#8) rst).reg 0x100 = 0x05#8 ∧ (after (.wrFb 0x7F#7 0xAB#8) rst).reg 0x1FF = 0xAB#8 := by decide

/-- V-MEM-2: nothing stored in TRX_OFF. -/
theorem test_read_only_write :
    (after .wrRoTrxStatus (inState .trxOff)).reg 0x141 = 0x08#8 ∧
    plainOutputs .wrRoTrxStatus (inState .trxOff) = some [] ∧
    (after .wrRoPhyRssi rst).reg 0x146 = 0x00#8 ∧ (after .wrRoPhyEdLevel rst).reg 0x147 = 0xFF#8 ∧
    (after .wrRoTstRxLength rst).reg 0x17B = 0x00#8 := by decide

/-- V-MEM-6: TRXRST wins over SLPTR. -/
theorem test_trxrst :
    (after .trxrst (inState .trxOff)).reg 0x139 = 0x00#8 ∧ (after .trxrst (inState .trxOff)).opState = .trxOff := by decide

/-- V-CMD-1: RX_ON is ignored in OFF. -/
theorem test_rx_on_in_off :
    (after .cmdRxOn rst).opState = .off ∧ (after .cmdRxOn rst).reg 0x142 = 0x06#8 ∧ plainOutputs .cmdRxOn rst = some [] := by
  decide

/-- V-CMD-2, V-CMD-12, V-CMD-15. -/
theorem test_nop :
    outputsOf .cmdNop rst = some [] ∧ (outputsOf .cmdNop (inState .transition)).map List.length = some 1 ∧
    (after .cmdNop ((inState .trxOff).setReg 0x142 0x79#8)).reg 0x142 = 0x60#8 := by decide

/-- V-CMD-3, V-CMD-4. -/
theorem test_leave_off :
    outputsOf .cmdTrxOff rst = some [.powerMode 1, .probe .off .trxOff] ∧ (after .cmdTrxOff rst).reg 0x141 = 0x08#8 ∧
    outputsOf .cmdForceTrxOff rst = some [.powerMode 1, .probe .off .trxOff] ∧
    (after .cmdForceTrxOff rst).reg 0x142 = 0x03#8 := by decide

/-- V-CMD-5, and R166 from BUSY_RX. -/
theorem test_pll_on :
    plainOutputs .cmdPllOn (inState .trxOff) = some [.powerMode 2, .probe .trxOff .pllOn] ∧
    (after .cmdPllOn (inState .trxOff)).reg 0x141 = 0x09#8 ∧
    plainOutputs .cmdForcePllOn (receiving .busyRx .inPacket 1) = some [.endReceive, .powerMode 2, .probe .busyRx .pllOn] ∧
    (after .cmdForcePllOn (receiving .busyRx .inPacket 1)).rx.active = false := by decide

/-- V-CMD-6, V-CMD-14. -/
theorem test_listen_commands :
    plainOutputs .cmdRxOn (inState .trxOff) =
      some [.beginReceive (Config.freq 11#5), .powerMode 3, .probe .trxOff .rxOn] ∧
    (after .cmdRxOn (inState .trxOff)).reg 0x141 = 0x06#8 ∧
    (after .cmdRxAackOn (inState .trxOff)).reg 0x141 = 0x16#8 ∧ (after .cmdRxAackOn (inState .trxOff)).rx.active = true :=
  ⟨rfl, rfl, rfl, rfl⟩

/-- V-CMD-7; two more invalid codes. -/
theorem test_invalid_commands :
    (after .cmdInvalid01 (inState .trxOff)).reg 0x142 = 0x01#8 ∧
    (outputsOf .cmdInvalid01 (inState .trxOff)).map List.length = some 1 ∧
    (after .cmdInvalid0F (inState .rxOn)).reg 0x142 = 0x0F#8 ∧ (after .cmdInvalid1F (inState .rxOn)).opState = .rxOn := by
  decide

/-- V-CMD-8, V-CMD-9. -/
theorem test_tx_start :
    (after .cmdTxStart (inState .rxOn)).opState = .rxOn ∧
    outputsOf .cmdTxStart (inState .pllOn) =
      some [.powerMode 4, .probe .pllOn .busyTx, .beginTransmit 0#4 (Config.freq 11#5)] ∧
    (after .cmdTxStart (inState .pllOn)).tx.st = .preamble ∧ (after .cmdTxStart (inState .pllOn)).reg 0x141 = 0x02#8 :=
  ⟨rfl, rfl, rfl, rfl⟩

/-- V-CMD-10, V-CMD-11. -/
theorem test_trx_off_cuts_a_frame_and_is_ignored_asleep :
    plainOutputs .cmdForceTrxOff (sending .busyTx .preamble 1 false) =
      some [.endTransmit, .powerMode 1, .probe .busyTx .trxOff] ∧
    (after .cmdTrxOff (inState .sleep)).opState = .sleep ∧ (after .cmdTrxOff (inState .sleep)).reg 0x142 = 0x08#8 := by decide

/-- V-CMD-13. -/
theorem test_tx_aret_on :
    (after .cmdTxAretOn (inState .trxOff)).reg 0x141 = 0x19#8 ∧
    plainOutputs .cmdTxAretOn (inState .trxOff) = some [.powerMode 2, .probe .trxOff .txAretOn] := by decide

/-- V-CSMA-1; and a write that only configures. -/
theorem test_cca_request :
    (after (.cca 1#2 11#5) (inState .rxOn)).pending.ccaDelay = some 8 ∧
    (after (.cca 1#2 11#5) (inState .rxOn)).reg 0x148 = 0x2B#8 ∧
    (after (.wrPhyCcCca 2#2 11#5) (inState .rxOn)).reg 0x148 = 0x4B#8 ∧
    (after (.wrPhyCcCca 2#2 11#5) (inState .rxOn)).pending.ccaDelay = none := by decide

/-- V-CSMA-2, V-CSMA-3: the manual CCA, energy 20 then 5, and 14 then 3. -/
theorem test_manual_cca_completes :
    (after .fireCcaDelay { inState .rxOn with
      ccaStartEnergy := 20#8, pending := { Pending.empty with ccaDelay := some 0 } }).reg 0x141 = 0xC6#8 ∧
    (after .fireCcaDelay { inState .rxOn with
      ccaStartEnergy := 14#8, env := { rst.env with energy := [3] },
      pending := { Pending.empty with ccaDelay := some 0 } }).reg 0x141 = 0x86#8 := by decide

/-- L1-P3's last CCA: busy with no retry left. -/
theorem test_channel_access_failure :
    (after .fireCcaDelay { inState .busyTxAret with
      aretActive := true, pending := { Pending.empty with ccaDelay := some 0 } }).reg 0x142 = 0x60#8 ∧
    (after .fireCcaDelay { inState .busyTxAret with
      aretActive := true, pending := { Pending.empty with ccaDelay := some 0 } }).opState = .txAretOn := by decide

/-- V-PIN-1, V-PIN-2. -/
theorem test_sleep_and_wake :
    outputsOf (.wrTrxprSlptr 0#6 true) (inState .trxOff) = some [.powerMode 0, .probe .trxOff .sleep] ∧
    (after (.wrTrxprSlptr 0#6 true) (inState .trxOff)).reg 0x141 = 0x0F#8 ∧
    (after (.wrTrxprSlptr 0#6 false) ((inState .sleep).setReg 0x139 0x02#8)).pending.wakeup = some 10 ∧
    (after (.wrTrxprSlptr 0#6 false) ((inState .sleep).setReg 0x139 0x02#8)).reg 0x141 = 0x1F#8 := by decide

/-- V-PIN-4, V-PIN-5. -/
theorem test_pin_1 :
    (after .pin1 (inState .pllOn)).opState = .busyTx ∧ (after .pin1 (inState .pllOn)).reg 0x139 = 0x02#8 ∧
    plainOutputs .pin1 { inState .busyTx with pinLevel := true } = some [] := by decide

/-- V-PIN-6: a falling edge outside SLEEP; and no edge. -/
theorem test_pin_0 :
    outputsOf .pin0 { (inState .busyTx).setReg 0x139 0x02#8 with pinLevel := true } = some [] ∧
    (after .pin0 { (inState .busyTx).setReg 0x139 0x02#8 with pinLevel := true }).reg 0x139 = 0x00#8 ∧
    (outputsOf .pin0 (inState .busyTx)).map List.length = some 1 := by decide

/-- V-PIN-3, V-PIN-9. -/
theorem test_fire_wakeup :
    (after .fireWakeup { inState .transition with pending := { Pending.empty with wakeup := some 0 } }).reg 0x14F = 0x80#8 ∧
    outputsOf .fireWakeup { inState .transition with pending := { Pending.empty with wakeup := some 10 } } = none := by decide

/-- V-TX-1's first byte, V-TX-8. -/
theorem test_pull_preamble_and_stopped :
    outputsOf .pull (sending .busyTx .preamble 0 false) = some [.txByte 0x00#8] ∧
    plainOutputs .pull (inState .trxOff) = some [.txByte 0x00#8] := by decide

/-- V-CRC-3: the last byte of the ACK for 0x56, and the end of the ACK (V-AA-7). -/
theorem test_pull_last_byte :
    (outputsOf .pull (sending .busyRxAack .crcByte2 3 true)).map (fun os => os.take 2) =
      some [.txByte 0x82#8, .endTransmit] ∧
    (after .pull (sending .busyRxAack .crcByte2 3 true)).opState = .rxAackOn := by decide

/-- V-RX-1's SFD; V-RX-3's length 0. -/
theorem test_deliver_sfd_and_length :
    (after (.rxbL 0x7A#8) (receiving .rxOn .sfdMatched1 0)).reg 0x141 = 0x01#8 ∧
    (after (.rxbL 0x7A#8) (receiving .rxOn .sfdMatched1 0)).reg 0x14F = 0x04#8 ∧
    (after (.rxbL 0x00#8) (receiving .busyRx .sfdMatched2 0)).opState = .rxOn ∧
    (after (.rxbL 0x8C#8) (receiving .busyRx .sfdMatched2 0)).reg 0x17B = 0x0C#8 := by decide

/-- V-AF-6: frame type 4; V-ACK-2: a wrong sequence number during the wait. -/
theorem test_deliver_payload :
    (after (.rxbL 0x44#8) (receiving .busyRx .inPacket 0)).rx.filter = .reject ∧
    (after (.rxbL 0x2B#8) (awaiting .inPacket 2)).rx.st = .sfdScan ∧
    (after (.rxbL 0x2B#8) (awaiting .inPacket 2)).awaitingAck = true := by decide

/-- V-RX-7: lock loss mid-frame; outside a frame S stays. -/
theorem test_lock_loss :
    (after (.rxbU 0x33#8) (receiving .busyRx .inPacket 3)).opState = .rxOn ∧
    outputsOf (.rxbU 0x33#8) (receiving .busyRx .inPacket 3) = some [.powerMode 3, .probe .busyRx .rxOn] ∧
    outputsOf (.rxbU 0x33#8) (receiving .rxOn .sfdMatched1 0) = some [] := by decide

/-- V-ACK-3; L1-P4's end: no retry left gives NO_ACK. -/
theorem test_fire_ack_timeout :
    (after .fireAckTimeout ((awaiting .sfdScan 0).setReg 0x16C 0x1E#8)).tx.active = true ∧
    (after .fireAckTimeout { awaiting .sfdScan 0 with frameRetries := 0#4 }).reg 0x142 = 0xA0#8 := by decide

/-- V-AA-7's start of the ACK; R255's return to RX_AACK_ON. -/
theorem test_fire_ack_trigger :
    (after .fireAckTrigger { receiving .busyRxAack .sfdScan 0 with
      sendAck := true, rxSeq := 0x10#8, pending := { Pending.empty with ackTrigger := some 0 } }).tx.ackSeq = 0x10#8 ∧
    (after .fireAckTrigger { receiving .busyRxAack .sfdScan 0 with
      pending := { Pending.empty with ackTrigger := some 0 } }).opState = .rxAackOn := by decide

/-- V-IRQ-1, V-IRQ-6. -/
theorem test_irq_mask :
    outputsOf (.wrIrqMask 0x08#8) (rst.setReg 0x14F 0x2C#8) = some [.irqLine .rxEnd true] ∧
    outputsOf (.wrIrqMask 0x00#8) ((rst.setReg 0x14F 0x08#8).setReg 0x14E 0x08#8) = some [.irqLine .rxEnd false] := by decide

/-- V-IRQ-4, V-IRQ-3. -/
theorem test_irq_clear :
    (after (.clrirq 0x40#8) (rst.setReg 0x14F 0x48#8)).reg 0x14F = 0x08#8 ∧
    outputsOf (.clrirq 0x24#8) (rst.setReg 0x14F 0x6C#8) = some [] := by decide

/-- V-CLK-1, V-CLK-2, V-CLK-3. -/
theorem test_adv :
    outputsOf (.adv 25#17) { rst with pending := { Pending.empty with wakeup := some 10 } } = none ∧
    (after (.adv 10#17) { rst with pending := { Pending.empty with wakeup := some 10 } }).now = 10 ∧
    outputsOf (.adv 0#17) rst = some [] := by decide

/-- V-RST-1; R411's example. -/
theorem test_resets :
    (after .resetPor ((inState .rxOn).setReg 0x148 0x00#8)).reg 0x148 = 0x2B#8 ∧
    (after .resetPor (inState .rxOn)).opState = .off ∧
    plainOutputs .resetExplicit (sending .busyTx .payload 1 false) =
      some [.endTransmit, .powerMode 1, .probe .off .trxOff] ∧
    (after .resetExplicit (sending .busyTx .payload 1 false)).reg 0x141 = 0x08#8 := by decide

/-- R247, log 12: a length byte below 2 during the turnaround returns S to RX_AACK_ON and writes no `sendAck`; V-RST-1's
construction outputs power_mode(0) alone. -/
theorem test_send_ack_outlives_busy_state :
    (after (.rxbL 0x00#8) { receiving .busyRxAack .sfdMatched2 0 with sendAck := true }).opState = .rxAackOn ∧
    (after (.rxbL 0x00#8) { receiving .busyRxAack .sfdMatched2 0 with sendAck := true }).sendAck = true ∧
    State.reset.outputs = [.powerMode 0] := by decide

set_option maxRecDepth 4000 in
/-- V-CRC-2, V-CRC-3. -/
theorem test_crc :
    crcOf [0x31#8, 0x32#8, 0x33#8, 0x34#8, 0x35#8, 0x36#8, 0x37#8, 0x38#8, 0x39#8] = 0x9184#16 ∧
    crcOf [0x02#8, 0x00#8, 0x56#8] = 0xD041#16 := ⟨rfl, rfl⟩

/-- V-CSMA-6 to V-CSMA-9. -/
theorem test_backoff :
    (rst.setReg 0x16F 0x03#8).backoff = 0 ∧ (rst.setReg 0x16F 0x55#8).backoff = 32 ∧
    (rst.setReg 0x16F 0x35#8).backoff = 32 ∧ rst.backoff = 10 := by decide

/-! ### Witnesses: a concrete state and operands that meet a statement's hypotheses, for each clause -/

theorem test_witness_DecodeOfEncodeIsIdentity :
    Instr.wf (.wr 0x000#9 0#8) = true ∧ Instr.wf (.wr 0x17F#9 0xFF#8) = true ∧ Instr.wf (.cca 3#2 31#5) = true := by decide

theorem test_witness_IgnoredBitsHaveNoEffect :
    0x14F00#20 &&& definedBits (field 0x14F00#20 17 3) = 0x14FFF#20 &&& definedBits (field 0x14F00#20 17 3) ∧
    0x80003#20 &&& definedBits (field 0x80003#20 17 3) = 0x9FFFF#20 &&& definedBits (field 0x80003#20 17 3) := by decide

theorem test_witness_StepRunsDecodedInput :
    { rst with inputs := [0x34208#20] }.inputs = 0x34208#20 :: [] ∧ rst.inputs = [] := by decide

theorem test_witness_HostReadReturnsRegister : rst.Mirrors ∧ (inState .rxOn).Mirrors := by decide

theorem test_witness_PlainAndReadOnlyWrites :
    plainWriteAddr 0x000#9 = true ∧ plainWriteAddr 0x17F#9 = true ∧
    Instr.wrRoTstRxLength ∈ [Instr.wrRoTrxStatus, .wrRoPhyRssi, .wrRoPhyEdLevel, .wrRoTstRxLength] := by decide

theorem test_witness_IrqStatusClearedByHostOnly :
    ∃ t, exec (.wrIrqMask 0x00#8) (rst.setReg 0x14F 0x80#8) = .next t ∧
      bit ((rst.setReg 0x14F 0x80#8).reg Addr.irqStatus) 7 = true := ⟨_, rfl, rfl⟩

theorem test_witness_PostSetsStatusBit :
    bit ((rst.setReg 0x14F 0x40#8).reg Addr.irqStatus) IrqLine.txEnd.bitNo = true := by decide

theorem test_witness_OutputsReportLineLevels :
    { rst with inputs := [0x34208#20] }.LinesReported ∧
      ∃ t, step { rst with inputs := [0x34208#20] } = .next t :=
  ⟨fun l => by cases l <;> decide, _, rfl⟩

theorem test_witness_StoppingModeCommands :
    (Instr.cmdTxAretOn, 0x19#8, OpState.txAretOn, 0x19#8, 2) ∈
      [(Instr.cmdForceTrxOff, 0x03#8, OpState.trxOff, 0x08#8, 1), (.cmdForcePllOn, 0x04#8, .pllOn, 0x09#8, 2),
       (.cmdTrxOff, 0x08#8, .trxOff, 0x08#8, 1), (.cmdPllOn, 0x09#8, .pllOn, 0x09#8, 2),
       (.cmdTxAretOn, 0x19#8, .txAretOn, 0x19#8, 2)] ∧
    (inState .busyTx).opState ≠ .off ∧ (inState .busyTx).opState ≠ .sleep ∧ (inState .busyTx).opState ≠ .transition ∧
    (Instr.cmdTrxOff, 0x08#8) ∈ [(Instr.cmdForceTrxOff, 0x03#8), (.cmdTrxOff, 0x08#8)] ∧ rst.opState = .off := by decide

theorem test_witness_ListeningModeCommands :
    (Instr.cmdRxAackOn, 0x16#8, OpState.rxAackOn, 0x16#8) ∈
      [(Instr.cmdRxOn, 0x06#8, OpState.rxOn, 0x06#8), (.cmdRxAackOn, 0x16#8, .rxAackOn, 0x16#8)] ∧
    (inState .pllOn).opState ≠ .off ∧ (inState .pllOn).opState ≠ .sleep ∧ (inState .pllOn).opState ≠ .transition := by decide

theorem test_witness_NopAndInvalidCommands :
    (rst.opState ≠ .sleep ∧ rst.opState ≠ .transition) ∧ (inState .sleep).opState = .sleep ∧
    (inState .transition).opState = .transition ∧ (Instr.cmdInvalid01, 0x01#8) ∈ invalidCommandRows ∧
    (Instr.cmdInvalid1F, 0x1F#8) ∈ invalidCommandRows := by decide

theorem test_witness_TxStartCommand :
    ((inState .pllOn).Sequenced ∧ (inState .pllOn).opState = .pllOn) ∧
    ((inState .txAretOn).Sequenced ∧ (inState .txAretOn).opState = .txAretOn) ∧
    (inState .rxOn).Sequenced ∧ (inState .rxOn).opState ≠ .pllOn ∧ (inState .rxOn).opState ≠ .txAretOn := by
  refine ⟨⟨?_, ?_⟩, ⟨?_, ?_⟩, ?_, ?_, ?_⟩ <;> decide

theorem test_witness_CommandTableIsCovered :
    rst.Sequenced ∧ (inState .sleep).Sequenced ∧ (receiving .busyRx .inPacket 3).Sequenced ∧
    (sending .busyTxAret .payload 1 false).Sequenced := by
  refine ⟨?_, ?_, ?_, ?_⟩ <;> decide

theorem test_witness_ManualCcaRequest :
    ((inState .rxOn).opState ≠ .off ∧ (inState .rxOn).opState ≠ .sleep ∧ (inState .rxOn).opState ≠ .transition) ∧
    rst.opState = .off := by decide

/-- Each clause of a rising edge, by the PIN input and by a write of TRXPR. -/
theorem test_witness_RisingEdge :
    ((inState .trxOff).Sequenced ∧ RisingInput .pin1 (inState .trxOff) 0x02#8) ∧
    ((inState .pllOn).Sequenced ∧ RisingInput (.wrTrxprSlptr 0x3F#6 true) (inState .pllOn) 0xFE#8) ∧
    ((inState .txAretOn).Sequenced ∧ RisingInput .pin1 (inState .txAretOn) 0x02#8) ∧
    ((inState .rxOn).Sequenced ∧ RisingInput .pin1 (inState .rxOn) 0x02#8) :=
  ⟨⟨by decide, .inl ⟨rfl, rfl, rfl⟩⟩, ⟨by decide, .inr ⟨_, rfl, rfl, rfl⟩⟩, ⟨by decide, .inl ⟨rfl, rfl, rfl⟩⟩,
    by decide, .inl ⟨rfl, rfl, rfl⟩⟩

theorem test_witness_FallingEdgeAndNoEdge :
    FallingInput .pin0 { (inState .sleep).setReg 0x139 0x02#8 with pinLevel := true } 0x00#8 ∧
    FallingInput (.wrTrxprSlptr 1#6 false) ((inState .rxOn).setReg 0x139 0x02#8) 0x04#8 ∧
    (Instr.pin1 = .pin1 ∧ { rst with pinLevel := true }.pinLevel = true) ∧ (Instr.pin0 = .pin0 ∧ rst.pinLevel = false) ∧
    bit (rst.reg Addr.trxpr) 1 = false :=
  ⟨.inl ⟨rfl, rfl, rfl⟩, .inr ⟨_, rfl, rfl, rfl⟩, ⟨rfl, rfl⟩, ⟨rfl, rfl⟩, rfl⟩

theorem test_witness_WakeupFires :
    ({ inState .transition with pending := ⟨none, some 0, none, none⟩ }.pending.wakeup = some rst.now ∧
      (inState .transition).opState = .transition) ∧
    ({ inState .trxOff with pending := ⟨none, some 0, none, none⟩ }.pending.wakeup = some rst.now ∧
      (inState .trxOff).opState ≠ .transition) := by decide

theorem test_witness_ExplicitReset : Instr.resetExplicit = .resetExplicit ∧ Instr.trxrst = .trxrst := by decide

theorem test_witness_FramingPulls :
    ((sending .busyTx .preamble 3 false).tx.active = true ∧ (sending .busyTx .preamble 3 false).tx.leadUntil ≤ rst.now ∧
      (sending .busyTx .preamble 3 false).tx.st = .preamble) ∧
    (sending .busyTx .sfd 4 false).tx.st = .sfd ∧ (sending .busyRxAack .length 4 true).tx.st = .length := by decide

theorem test_witness_PayloadPull :
    (sending .busyTx .payload 2 false).FramesInBounds ∧ (sending .busyTx .payload 2 false).tx.active = true ∧
    (sending .busyTx .payload 2 false).tx.leadUntil ≤ (sending .busyTx .payload 2 false).now ∧
    (sending .busyTx .payload 2 false).tx.st = .payload ∧ (sending .busyRxAack .payload 0 true).FramesInBounds := by decide

theorem test_witness_CrcPulls :
    (sending .busyTx .crcByte1 3 false).tx.active = true ∧
    (sending .busyTx .crcByte1 3 false).tx.leadUntil ≤ (sending .busyTx .crcByte1 3 false).now ∧
    (sending .busyTx .crcByte1 3 false).tx.st = .crcByte1 ∧ (sending .busyTx .crcByte2 3 false).tx.st = .crcByte2 := by decide

theorem test_witness_AckFrameEnds :
    (sending .busyRxAack .crcByte2 3 true).Sequenced ∧ (sending .busyRxAack .crcByte2 3 true).tx.active = true ∧
    (sending .busyRxAack .crcByte2 3 true).tx.leadUntil ≤ (sending .busyRxAack .crcByte2 3 true).now ∧
    (sending .busyRxAack .crcByte2 3 true).tx.st = .crcByte2 ∧ (sending .busyRxAack .crcByte2 3 true).tx.isAck = true := by
  decide

/-- The state before the last pull of an extended data frame, its ACK request as given. -/
def lastPull (x : OpState) (ackReq : Bool) : State :=
  { sending x .crcByte2 3 false with tx := { (sending x .crcByte2 3 false).tx with ackReq := ackReq } }

theorem test_witness_AwaitingAckBegins :
    (lastPull .busyTxAret true).Sequenced ∧ (lastPull .busyTxAret true).tx.active = true ∧
    (lastPull .busyTxAret true).tx.leadUntil ≤ (lastPull .busyTxAret true).now ∧
    (lastPull .busyTxAret true).tx.st = .crcByte2 ∧ (lastPull .busyTxAret true).tx.isAck = false ∧
    (lastPull .busyTxAret true).tx.ackReq = true ∧ (lastPull .busyTxAret true).opState = .busyTxAret := by decide

theorem test_witness_DataFrameEnds :
    ((lastPull .busyTx true).Sequenced ∧ (lastPull .busyTx true).tx.active = true ∧
      (lastPull .busyTx true).tx.leadUntil ≤ (lastPull .busyTx true).now ∧ (lastPull .busyTx true).tx.st = .crcByte2 ∧
      (lastPull .busyTx true).tx.isAck = false ∧ (lastPull .busyTx true).opState = .busyTx) ∧
    (lastPull .busyTxAret false).Sequenced ∧ (lastPull .busyTxAret false).tx.ackReq = false ∧
      (lastPull .busyTxAret false).opState = .busyTxAret := by
  refine ⟨⟨?_, ?_, ?_, ?_, ?_, ?_⟩, ?_, ?_, ?_⟩ <;> decide

/-- The lead time at its boundary: one cycle to go, and just passed. -/
theorem test_witness_PullAdmission :
    ({ sending .busyTx .preamble 0 false with
        tx := { (sending .busyTx .preamble 0 false).tx with leadUntil := 1 } }.tx.active = true ∧
      (sending .busyTx .preamble 0 false).now < 1) ∧
    ((sending .busyTx .preamble 0 false).tx.active = true ∧
      (sending .busyTx .preamble 0 false).tx.leadUntil ≤ (sending .busyTx .preamble 0 false).now) ∧
    rst.tx.active = false := by decide

/-- A fresh data frame of length 2, and a fresh auto-ACK. -/
theorem test_witness_FrameOnTheMedium :
    (let s := { (sending .busyTx .preamble 0 false).setReg 0x180 0x82#8 with
        tx := (inState .busyTx).freshTx false };
      s.tx.active = true ∧ s.tx.st = .preamble ∧ s.tx.cnt = 0 ∧ s.tx.crc = 0#16 ∧ s.tx.leadUntil ≤ s.now ∧
        2#8 = (if s.tx.isAck then 5#8 else s.reg 0x180 &&& 0x7F#8) ∧
        [] = (if s.tx.isAck then [0x02#8, 0x00#8, s.tx.ackSeq]
          else (List.range ((2#8).toNat - 2)).map (fun k => s.reg (0x180 + (k + 1))))) ∧
    (let s := { inState .busyRxAack with tx := (inState .busyRxAack).freshTx true };
      s.tx.active = true ∧ s.tx.st = .preamble ∧ s.tx.cnt = 0 ∧ s.tx.crc = 0#16 ∧ s.tx.leadUntil ≤ s.now ∧
        5#8 = (if s.tx.isAck then 5#8 else s.reg 0x180 &&& 0x7F#8)) := by decide

theorem test_witness_DeliveriesSampleRssi :
    Instr.rxbU 0x33#8 = .rxbU 0x33#8 ∧ rst.rx.active = false ∧ (receiving .rxOn .sfdScan 0).rx.active = true := by decide

theorem test_witness_LockLoss :
    ((receiving .rxOn .sfdMatched1 0).rx.active = true ∧ (receiving .rxOn .sfdMatched1 0).rx.st = .sfdMatched1) ∧
    ((awaiting .crc2 3).rx.active = true ∧ (awaiting .crc2 3).rx.st = .crc2 ∧ (awaiting .crc2 3).awaitingAck = true) ∧
    ((receiving .busyRxAack .sfdMatched2 0).rx.st = .sfdMatched2 ∧ (receiving .busyRxAack .sfdMatched2 0).awaitingAck = false ∧
      ((receiving .busyRxAack .sfdMatched2 0).opState, OpState.rxAackOn, 0x16#8) ∈ listenRows) := by decide

theorem test_witness_SfdScan :
    ((receiving .rxOn .sfdScan 0).rx.active = true ∧ (receiving .rxOn .sfdScan 0).rx.st = .sfdScan) ∧
    ((receiving .rxOn .sfdMatched1 0).rx.st = .sfdMatched1 ∧ (0x7B#8 ≠ 0x7A#8)) := by decide

/-- Suppressed by RX_PDT_DIS; not suppressed in and outside an ACK wait. -/
theorem test_witness_SfdMatch :
    (let s := (receiving .rxOn .sfdMatched1 0).setReg 0x155 0x80#8;
      s.rx.active = true ∧ s.rx.st = .sfdMatched1 ∧
        true = (bit (s.reg Addr.rxSyn) 7 ||
          (decide (field (s.reg Addr.rxSyn) 0 4 ≠ 0#4) && Config.rxThreshold (field (s.reg Addr.rxSyn) 0 4) s.rssiDraw))) ∧
    (let s := receiving .rxAackOn .sfdMatched1 0;
      s.rx.active = true ∧ s.rx.st = .sfdMatched1 ∧ s.awaitingAck = false ∧ (s.opState, OpState.busyRxAack, 0x11#8) ∈ busyRows ∧
        false = (bit (s.reg Addr.rxSyn) 7 ||
          (decide (field (s.reg Addr.rxSyn) 0 4 ≠ 0#4) && Config.rxThreshold (field (s.reg Addr.rxSyn) 0 4) s.rssiDraw))) ∧
    (awaiting .sfdMatched1 0).rx.active = true ∧ (awaiting .sfdMatched1 0).rx.st = .sfdMatched1 ∧
      (awaiting .sfdMatched1 0).awaitingAck = true := by decide

/-- Length 1, with bit 7 set, is dropped; length 2 is kept. -/
theorem test_witness_LengthByte :
    ((receiving .busyRx .sfdMatched2 0).rx.active = true ∧ (receiving .busyRx .sfdMatched2 0).rx.st = .sfdMatched2 ∧
      0x01#8 = 0x81#8 &&& 0x7F#8 ∧ (0x01#8).toNat < 2 ∧ (receiving .busyRx .sfdMatched2 0).awaitingAck = false ∧
      ((receiving .busyRx .sfdMatched2 0).opState, OpState.rxOn, 0x06#8) ∈ listenRows) ∧
    ((awaiting .sfdMatched2 0).rx.active = true ∧ (awaiting .sfdMatched2 0).rx.st = .sfdMatched2 ∧
      (awaiting .sfdMatched2 0).awaitingAck = true) ∧
    0x02#8 = 0x82#8 &&& 0x7F#8 ∧ 2 ≤ (0x02#8).toNat := by decide

theorem test_witness_PayloadByteTaken :
    (let s := receiving .busyRx .inPacket 3;
      s.FramesInBounds ∧ s.TakesPayload ∧ s.rx.pos + 1 ∉ [1, 2, 3, 5, 7, 13]) ∧
    (let s := { receiving .busyRx .inPacket 0 with rx := { (receiving .busyRx .inPacket 0).rx with filter := .reject } };
      s.FramesInBounds ∧ s.TakesPayload ∧ s.rx.filter = .reject) := by
  repeat' apply And.intro
  all_goals decide

theorem test_witness_FilterReadsFrameControl :
    (let s := receiving .busyRx .inPacket 0;
      s.FramesInBounds ∧ s.TakesPayload ∧ s.rx.filter ≠ .reject ∧ s.rx.pos = 0) ∧
    ((receiving .busyRx .inPacket 1).FramesInBounds ∧ (receiving .busyRx .inPacket 1).TakesPayload) ∧
    (receiving .busyRx .inPacket 2).FramesInBounds ∧ (receiving .busyRx .inPacket 2).TakesPayload := by
  repeat' apply And.intro
  all_goals decide

/-- Positions 5, 7 and, in a frame of length 20, 13, with the addressing mode of each check. -/
theorem test_witness_FilterChecksDestination :
    (let s := { receiving .busyRx .inPacket 4 with rx := { (receiving .busyRx .inPacket 4).rx with dstMode := 2#2 } };
      s.FramesInBounds ∧ s.TakesPayload ∧ s.rx.filter = .pass ∧ s.rx.dstMode = 2#2 ∧ s.rx.pos = 4) ∧
    (let s := { receiving .busyRx .inPacket 6 with rx := { (receiving .busyRx .inPacket 6).rx with dstMode := 2#2 } };
      s.FramesInBounds ∧ s.TakesPayload ∧ s.rx.filter = .pass ∧ s.rx.dstMode = 2#2 ∧ s.rx.pos = 6) ∧
    (let s := { receiving .busyRx .inPacket 12 with
        rx := { (receiving .busyRx .inPacket 12).rx with dstMode := 3#2, len := 20#8 } };
      s.FramesInBounds ∧ s.TakesPayload ∧ s.rx.filter = .pass ∧ s.rx.dstMode = 3#2 ∧ s.rx.pos = 12) := by
  repeat' apply And.intro
  all_goals decide

theorem test_witness_PayloadByteInAckWait :
    ((awaiting .inPacket 0).rx.active = true ∧ (awaiting .inPacket 0).rx.st = .inPacket ∧
      (awaiting .inPacket 0).awaitingAck = true ∧ (awaiting .inPacket 0).rx.pos ≠ 2) ∧
    ((awaiting .inPacket 2).rx.st = .inPacket ∧ (awaiting .inPacket 2).rx.pos = 2 ∧
      0x2A#8 = (awaiting .inPacket 2).lastTxSeq ∧ 0x2B#8 ≠ (awaiting .inPacket 2).lastTxSeq) := by decide

theorem test_witness_CrcBytesTaken :
    ((receiving .busyRx .crc1 10).FramesInBounds ∧ (receiving .busyRx .crc1 10).rx.active = true ∧
      (receiving .busyRx .crc1 10).rx.st = .crc1) ∧
    (awaiting .crc2 10).FramesInBounds ∧ (awaiting .crc2 10).rx.active = true ∧ (awaiting .crc2 10).rx.st = .crc2 := by
  repeat' apply And.intro
  all_goals decide

/-- A frame in RX_AACK with its ACK request and a right CRC, which wants an ACK; one in BUSY_RX, which wants none; a rejected
one. -/
theorem test_witness_ReceptionEnds :
    (let s := { receiving .busyRxAack .crc2 10 with rx := { (receiving .busyRxAack .crc2 10).rx with ackReq := true } };
      s.FramesInBounds ∧ s.rx.active = true ∧ s.rx.st = .crc2 ∧ s.awaitingAck = false ∧
        (s.opState, OpState.rxAackOn, 0x16#8) ∈ listenRows ∧ s.rx.filter ≠ .reject ∧
        true = (s.crcOk 0x00#8 && s.rx.ackReq && decide (s.opState = .busyRxAack) && !bit (s.reg Addr.csmaSeed1) 4)) ∧
    (let s := receiving .busyRx .crc2 10;
      s.FramesInBounds ∧ (s.opState, OpState.rxOn, 0x06#8) ∈ listenRows ∧ s.rx.filter ≠ .reject ∧
        false = (s.crcOk 0x00#8 && s.rx.ackReq && decide (s.opState = .busyRxAack) && !bit (s.reg Addr.csmaSeed1) 4)) ∧
    (let s := { receiving .busyRx .crc2 10 with rx := { (receiving .busyRx .crc2 10).rx with filter := .reject } };
      s.FramesInBounds ∧ s.rx.active = true ∧ s.rx.st = .crc2 ∧ s.awaitingAck = false ∧ s.rx.filter = .reject) := by
  repeat' apply And.intro
  all_goals decide

theorem test_witness_CandidateAckEnds :
    (let s := { awaiting .crc2 10 with rx := { (awaiting .crc2 10).rx with seqOk := true } };
      s.rx.active = true ∧ s.rx.st = .crc2 ∧ s.awaitingAck = true ∧ s.rx.seqOk = true ∧ s.crcOk 0x00#8 = true) ∧
    ((awaiting .crc2 10).rx.active = true ∧ (awaiting .crc2 10).rx.st = .crc2 ∧ (awaiting .crc2 10).awaitingAck = true ∧
      (awaiting .crc2 10).rx.seqOk = false) := by decide

/-- `s` with ACK_TRIGGER due now. -/
def triggered (s : State) : State := { s with pending := { s.pending with ackTrigger := some s.now } }

theorem test_witness_AckTriggerFires :
    (let s := triggered { receiving .busyRxAack .sfdScan 0 with sendAck := true };
      s.Sequenced ∧ s.pending.ackTrigger = some s.now ∧ s.sendAck = true ∧ s.opState = .busyRxAack) ∧
    (let s := triggered (receiving .busyRxAack .sfdMatched1 0);
      s.Sequenced ∧ s.pending.ackTrigger = some s.now ∧ s.sendAck = false ∧ s.opState = .busyRxAack ∧
        s.rx.st = .sfdMatched1) ∧
    (let s := triggered (receiving .busyRxAack .sfdMatched2 0);
      s.Sequenced ∧ s.pending.ackTrigger = some s.now ∧ s.sendAck = false ∧ s.rx.st = .sfdMatched2) ∧
    (let s := triggered (receiving .rxAackOn .sfdScan 0);
      s.Sequenced ∧ s.pending.ackTrigger = some s.now ∧ s.opState ≠ .busyRxAack) := by
  repeat' apply And.intro
  all_goals decide

theorem test_witness_SentFrameIsReceivedIntact :
    (receiving .rxOn .sfdScan 0).rx.active = true ∧ (receiving .rxOn .sfdScan 0).rx.st = .sfdScan ∧
    (receiving .rxOn .sfdScan 0).awaitingAck = false ∧ (receiving .rxOn .sfdScan 0).opState = .rxOn ∧
    (receiving .rxOn .sfdScan 0).reg Addr.rxSyn = 0x00#8 ∧ (List.replicate 125 0#8).length ≤ 125 :=
  ⟨rfl, rfl, rfl, rfl, rfl, by simp⟩

/-- The four modes; energy 15 is above, 14 is not above, the threshold 14. -/
theorem test_witness_CcaVerdict :
    field ((rst.setReg 0x148 0x0B#8).reg Addr.phyCcCca) 5 2 = 0#2 ∧ field (rst.reg Addr.phyCcCca) 5 2 = 1#2 ∧
    field ((rst.setReg 0x148 0x4B#8).reg Addr.phyCcCca) 5 2 = 2#2 ∧ field ((rst.setReg 0x148 0x6B#8).reg Addr.phyCcCca) 5 2 = 3#2 ∧
    (True ↔ 2 * (field (rst.reg Addr.ccaThres) 0 4).toNat < max (10#8).toNat (15#8).toNat) ∧
    (False ↔ 2 * (field (rst.reg Addr.ccaThres) 0 4).toNat < max (14#8).toNat (3#8).toNat) ∧
    (True ↔ (inState .busyRx).opState = .busyRx ∨ (inState .busyRx).opState = .busyRxAack) := by decide

theorem test_witness_BackoffInRange :
    (field ((rst.setReg 0x16F 0x03#8).reg Addr.csmaBe) 4 4 = 0#4) ∧
    (let s := rst.setReg 0x16F 0x55#8;
      field (s.reg Addr.csmaBe) 4 4 ≠ 0#4 ∧ (field (s.reg Addr.csmaBe) 4 4).toNat ≤ (field (s.reg Addr.csmaBe) 0 4).toNat) ∧
    (field (rst.reg Addr.csmaBe) 4 4 ≠ 0#4 ∧ (field (rst.reg Addr.csmaBe) 0 4).toNat < (field (rst.reg Addr.csmaBe) 4 4).toNat ∧
      rst.env.backoff = 10 :: [] ∧ 2 ^ 3 ≤ 10 ∧ 10 < 2 ^ 5) := by decide

/-- `s` with CCA_DELAY due now, in a sequence that waits for its CCA. -/
def sensing (csmaRetries : BitVec 3) (energy : List (Fin 255)) : State :=
  { inState .busyTxAret with
    aretActive := true
    csmaRetries := csmaRetries
    env := { rst.env with energy := energy }
    pending := { Pending.empty with ccaDelay := some 0 } }

/-- Idle; busy with one retry left; busy with none; a firing outside a sequence. -/
theorem test_witness_AretCcaCompletes :
    ((sensing 1#3 [14]).Sequenced ∧ (sensing 1#3 [14]).pending.ccaDelay = some (sensing 1#3 [14]).now ∧
      (sensing 1#3 [14]).aretActive = true ∧ (sensing 1#3 [14]).awaitingAck = false ∧ (sensing 1#3 [14]).tx.active = false ∧
      (sensing 1#3 [14]).ccaBusy (sensing 1#3 [14]).ccaStartEnergy (sensing 1#3 [14]).energyDraw = false) ∧
    ((sensing 1#3 [15]).Sequenced ∧ (sensing 1#3 [15]).ccaBusy (sensing 1#3 [15]).ccaStartEnergy (sensing 1#3 [15]).energyDraw = true ∧
      0 < (sensing 1#3 [15]).csmaRetries.toNat) ∧
    ((sensing 0#3 [15]).Sequenced ∧ (sensing 0#3 [15]).ccaBusy (sensing 0#3 [15]).ccaStartEnergy (sensing 0#3 [15]).energyDraw = true ∧
      (sensing 0#3 [15]).csmaRetries = 0#3) ∧
    (let s := { inState .rxOn with pending := { Pending.empty with ccaDelay := some 0 } };
      s.pending.ccaDelay = some s.now ∧ ¬ (s.aretActive = true ∧ s.awaitingAck = false ∧ s.tx.active = false)) := by
  repeat' apply And.intro
  all_goals decide

theorem test_witness_AckTimeoutFires :
    ((awaiting .sfdScan 0).Sequenced ∧ (awaiting .sfdScan 0).pending.ackTimeout = some (awaiting .sfdScan 0).now ∧
      (awaiting .sfdScan 0).awaitingAck = true ∧ 0 < (awaiting .sfdScan 0).frameRetries.toNat) ∧
    (let s := { awaiting .sfdScan 0 with frameRetries := 0#4 };
      s.Sequenced ∧ s.pending.ackTimeout = some s.now ∧ s.awaitingAck = true ∧ s.frameRetries = 0#4) ∧
    (let s := { rst with pending := { Pending.empty with ackTimeout := some 0 } };
      s.Sequenced ∧ s.pending.ackTimeout = some s.now ∧ s.awaitingAck = false) := by
  repeat' apply And.intro
  all_goals decide

theorem test_witness_ManualCcaCompletes :
    let s := { inState .rxOn with pending := { Pending.empty with ccaDelay := some 0 } }
    s.pending.ccaDelay = some s.now ∧ s.aretActive = false := by decide

/-- An advance just up to a pending event, and one cycle past it. -/
theorem test_witness_ClockAdvance :
    (∀ e due, ({ Pending.empty with wakeup := some 10 } : Pending).get e = some due → rst.now + (10#17).toNat ≤ due) ∧
    (∃ e due, ({ Pending.empty with wakeup := some 10 } : Pending).get e = some due ∧ due < rst.now + (11#17).toNat) ∧
    (∃ t, exec .cmdNop rst = .next t ∧ ∀ n, Instr.cmdNop ≠ .adv n) :=
  ⟨fun e due => by cases e <;> (simp [Pending.get, Pending.empty, rst, State.reset]; try omega),
    ⟨.wakeup, 10, rfl, by decide⟩, _, rfl, fun _ => nofun⟩

theorem test_witness_AdmittedInputsComplete :
    (Instr.fireCcaDelay, Event.ccaDelay) ∈ [(Instr.fireCcaDelay, Event.ccaDelay), (.fireWakeup, .wakeup),
      (.fireAckTimeout, .ackTimeout), (.fireAckTrigger, .ackTrigger)] ∧
    ({ rst with pending := { Pending.empty with ccaDelay := some 1 } } : State).pending.get .ccaDelay ≠ some rst.now := by
  decide

/-- The invariants' premises, and a step, on one state: an unlocked byte in mid-frame. -/
theorem test_witness_invariants :
    let s := { receiving .busyRx .inPacket 3 with inputs := [0x60033#20] }
    s.MemoryCanonical ∧ s.Mirrors ∧ s.TracLegal ∧ s.Sequenced ∧ s.SendAckBusy ∧ s.FramesInBounds ∧ s.EventsAhead := by
  refine ⟨?_, ?_, ?_, ?_, ?_, ?_, ?_⟩ <;> decide

theorem test_witness_invariant_step :
    ∃ t, step { receiving .busyRx .inPacket 3 with inputs := [0x60033#20] } = .next t := ⟨_, rfl⟩

theorem test_witness_OutputsDoNotFeedBack :
    (∃ t, step { rst with inputs := [0x34208#20] } = .next t) ∧ step rst = .fault .noInput := ⟨⟨_, rfl⟩, rfl⟩

theorem test_witness_OnlyWakingLeavesSleep :
    let s : State := { (inState .sleep).setReg 0x139 0x02#8 with pinLevel := true }
    s.Sequenced ∧ Instr.pin0.wf = true ∧ s.opState = .sleep ∧ (after .pin0 s).opState ≠ .sleep ∧
      (after .pin0 s).opState = .transition := by decide

end Sys2Proof.Tests
end

/-! ### O5, O59: the step runs the decoded input, and no output feeds back -/

namespace Sys2Proof.Machine

/-! ### The step by the inputs offered -/

/-- With an input offered, the step runs its decoding at the state without it (00_scope.md R9). -/
theorem step_of_inputs_cons {s : State} {w : InputWord} {rest : List InputWord} (h : s.inputs = w :: rest) :
    step s = exec (decode w) { s with inputs := rest } := by
  simp [step, h]

theorem step_of_inputs_nil {s : State} (h : s.inputs = []) : step s = .fault .noInput := by
  simp [step, h]

/-! ### Outputs made earlier

A meaning reads no output and only appends outputs of its own. Both are said at once by one equation per operation `f`: `f` run
with more outputs made earlier is `f`'s own result with those outputs put before its own. Such equations compose by rewriting. -/

/-- `s` with the outputs `os` made before all of its own. -/
def State.withEarlier (s : State) (os : List Output) : State := { s with outputs := os ++ s.outputs }

/-- A result whose next state, if there is one, has the outputs `os` made before all of its own. -/
def Result.withEarlier (r : Result) (os : List Output) : Result :=
  match r with
  | .next t => .next (t.withEarlier os)
  | .fault f => .fault f
  | .refused f => .refused f

@[simp] theorem Result.next_withEarlier (t : State) (os : List Output) :
    Result.withEarlier (.next t) os = .next (t.withEarlier os) := rfl

@[simp] theorem Result.fault_withEarlier (f : Fault) (os : List Output) :
    Result.withEarlier (.fault f) os = .fault f := rfl

section
variable (s : State) (os : List Output)

/-- Any list of outputs of a state is one made earlier, before none of its own. -/
theorem setOutputs_eq_withEarlier :
    { s with outputs := os } = State.withEarlier { s with outputs := [] } os := by
  simp [State.withEarlier]

/-! ### What a rule reads of a state, it reads with any earlier outputs -/

@[simp] theorem withEarlier_inputs : (s.withEarlier os).inputs = s.inputs := rfl
@[simp] theorem withEarlier_outputs : (s.withEarlier os).outputs = os ++ s.outputs := rfl
@[simp] theorem withEarlier_regFile : (s.withEarlier os).regFile = s.regFile := rfl
@[simp] theorem withEarlier_resets : (s.withEarlier os).resets = s.resets := rfl
@[simp] theorem withEarlier_opState : (s.withEarlier os).opState = s.opState := rfl
@[simp] theorem withEarlier_powerMode : (s.withEarlier os).powerMode = s.powerMode := rfl
@[simp] theorem withEarlier_tx : (s.withEarlier os).tx = s.tx := rfl
@[simp] theorem withEarlier_lastTxSeq : (s.withEarlier os).lastTxSeq = s.lastTxSeq := rfl
@[simp] theorem withEarlier_rx : (s.withEarlier os).rx = s.rx := rfl
@[simp] theorem withEarlier_rxSeq : (s.withEarlier os).rxSeq = s.rxSeq := rfl
@[simp] theorem withEarlier_lastCrcOk : (s.withEarlier os).lastCrcOk = s.lastCrcOk := rfl
@[simp] theorem withEarlier_aretActive : (s.withEarlier os).aretActive = s.aretActive := rfl
@[simp] theorem withEarlier_csmaRetries : (s.withEarlier os).csmaRetries = s.csmaRetries := rfl
@[simp] theorem withEarlier_frameRetries : (s.withEarlier os).frameRetries = s.frameRetries := rfl
@[simp] theorem withEarlier_awaitingAck : (s.withEarlier os).awaitingAck = s.awaitingAck := rfl
@[simp] theorem withEarlier_sendAck : (s.withEarlier os).sendAck = s.sendAck := rfl
@[simp] theorem withEarlier_ccaStartEnergy : (s.withEarlier os).ccaStartEnergy = s.ccaStartEnergy := rfl
@[simp] theorem withEarlier_pending : (s.withEarlier os).pending = s.pending := rfl
@[simp] theorem withEarlier_now : (s.withEarlier os).now = s.now := rfl
@[simp] theorem withEarlier_pinLevel : (s.withEarlier os).pinLevel = s.pinLevel := rfl
@[simp] theorem withEarlier_env : (s.withEarlier os).env = s.env := rfl
@[simp] theorem withEarlier_params : (s.withEarlier os).params = s.params := rfl

@[simp] theorem withEarlier_reg (a : Nat) : (s.withEarlier os).reg a = s.reg a := rfl
@[simp] theorem withEarlier_irqLevels : (s.withEarlier os).irqLevels = s.irqLevels := rfl
@[simp] theorem withEarlier_txPwr : (s.withEarlier os).txPwr = s.txPwr := rfl
@[simp] theorem withEarlier_channel : (s.withEarlier os).channel = s.channel := rfl
@[simp] theorem withEarlier_pdtLevel : (s.withEarlier os).pdtLevel = s.pdtLevel := rfl
@[simp] theorem withEarlier_rxDisabled : (s.withEarlier os).rxDisabled = s.rxDisabled := rfl
@[simp] theorem withEarlier_rssi : (s.withEarlier os).rssi = s.rssi := rfl
@[simp] theorem withEarlier_shortAddr : (s.withEarlier os).shortAddr = s.shortAddr := rfl
@[simp] theorem withEarlier_ieeeAddr : (s.withEarlier os).ieeeAddr = s.ieeeAddr := rfl
@[simp] theorem withEarlier_maxFrameRetries : (s.withEarlier os).maxFrameRetries = s.maxFrameRetries := rfl
@[simp] theorem withEarlier_maxCsmaRetries : (s.withEarlier os).maxCsmaRetries = s.maxCsmaRetries := rfl
@[simp] theorem withEarlier_energyDraw : (s.withEarlier os).energyDraw = s.energyDraw := rfl
@[simp] theorem withEarlier_backoff : (s.withEarlier os).backoff = s.backoff := rfl
@[simp] theorem withEarlier_backoffDraws : (s.withEarlier os).backoffDraws = s.backoffDraws := rfl
@[simp] theorem withEarlier_ccaBusy (x y : Byte) : (s.withEarlier os).ccaBusy x y = s.ccaBusy x y := rfl
@[simp] theorem withEarlier_ackWanted : (s.withEarlier os).ackWanted = s.ackWanted := rfl
@[simp] theorem withEarlier_ackTurn : (s.withEarlier os).ackTurn = s.ackTurn := rfl
@[simp] theorem withEarlier_resetStops : (s.withEarlier os).resetStops = s.resetStops := rfl
@[simp] theorem withEarlier_crcMatches (v : Byte) : (s.withEarlier os).crcMatches v = s.crcMatches v := rfl

/-! ### Assembling the equations: a record update, a branch -/

/-- A state written out field by field whose outputs begin with `os`: how an update of some fields passes `os` on. -/
theorem mk_withEarlier
    (x0 : List InputWord) (x1 : List Output) (x2 : Memory) (x3 : Nat) (x4 : OpState) (x5 : Nat) (x6 : Tx)
    (x7 : Byte) (x8 : Rx) (x9 : Byte) (x10 : Bool) (x11 : Bool) (x12 : BitVec 3) (x13 : BitVec 4) (x14 : Bool)
    (x15 : Bool) (x16 : Byte) (x17 : Pending) (x18 : Nat) (x19 : Bool) (x20 : Env) (x21 : Params) :
    State.mk x0 (os ++ x1) x2 x3 x4 x5 x6 x7 x8 x9 x10 x11 x12 x13 x14 x15 x16 x17 x18 x19 x20 x21 =
      State.withEarlier ⟨x0, x1, x2, x3, x4, x5, x6, x7, x8, x9, x10, x11, x12, x13, x14, x15, x16, x17, x18, x19, x20, x21⟩
        os := rfl

@[simp] theorem ite_withEarlier {c : Prop} [Decidable c] (t : State) :
    (if c then s.withEarlier os else t.withEarlier os) = (if c then s else t).withEarlier os :=
  (apply_ite (State.withEarlier · os) c s t).symm

/-- A branch on what is the same with any earlier outputs: each arm passes them on. -/
theorem ite_eq_withEarlier {c : Prop} {_ : Decidable c} {t t' u u' : State} (ht : t' = t.withEarlier os)
    (hu : u' = u.withEarlier os) : (if c then t' else u') = (if c then t else u).withEarlier os := by
  rw [ht, hu, ite_withEarlier]

@[simp] theorem ite_next_withEarlier {c : Prop} [Decidable c] (f : Fault) :
    (if c then Host.Outcome.next (s.withEarlier os) else .fault f : Result) =
      Result.withEarlier (if c then .next s else .fault f) os :=
  (apply_ite (Result.withEarlier · os) c (.next s) (.fault f)).symm

/-! ### The named operations (Machine/Ops.lean) -/

@[simp] theorem emit_withEarlier (o : Output) : (s.withEarlier os).emit o = (s.emit o).withEarlier os := by
  simp [State.emit, mk_withEarlier os]

@[simp] theorem diag_withEarlier (d : Diag) : (s.withEarlier os).diag d = (s.diag d).withEarlier os :=
  emit_withEarlier s os _

@[simp] theorem setReg_withEarlier (a : Nat) (v : Byte) :
    (s.withEarlier os).setReg a v = (s.setReg a v).withEarlier os := rfl

@[simp] theorem setFb_withEarlier (i : BitVec 7) (v : Byte) :
    (s.withEarlier os).setFb i v = (s.setFb i v).withEarlier os := rfl

@[simp] theorem updateIrqLines_withEarlier (v : Byte) :
    (s.withEarlier os).updateIrqLines v = (s.updateIrqLines v).withEarlier os := by
  simp [State.updateIrqLines, mk_withEarlier os]

@[simp] theorem post_withEarlier (l : IrqLine) : (s.withEarlier os).post l = (s.post l).withEarlier os :=
  updateIrqLines_withEarlier (State.setReg s _ _) os _

@[simp] theorem clearIrq_withEarlier (v : Byte) : (s.withEarlier os).clearIrq v = (s.clearIrq v).withEarlier os :=
  updateIrqLines_withEarlier (State.setReg s _ _) os _

@[simp] theorem writeIrqMask_withEarlier (v : Byte) :
    (s.withEarlier os).writeIrqMask v = (s.writeIrqMask v).withEarlier os :=
  updateIrqLines_withEarlier (State.setReg s _ _) os _

@[simp] theorem setState_withEarlier (x : OpState) :
    (s.withEarlier os).setState x = (s.setState x).withEarlier os := by
  simp [State.setState, mk_withEarlier os]

@[simp] theorem setTrac_withEarlier (code : BitVec 3) :
    (s.withEarlier os).setTrac code = (s.setTrac code).withEarlier os := rfl

@[simp] theorem schedule_withEarlier (e : Event) (d : Nat) :
    (s.withEarlier os).schedule e d = (s.schedule e d).withEarlier os := rfl

@[simp] theorem cancel_withEarlier (e : Event) : (s.withEarlier os).cancel e = (s.cancel e).withEarlier os := rfl

@[simp] theorem popEnergy_withEarlier : (s.withEarlier os).popEnergy = s.popEnergy.withEarlier os := rfl

@[simp] theorem popBackoff_withEarlier : (s.withEarlier os).popBackoff = s.popBackoff.withEarlier os := rfl

@[simp] theorem popBackoffIfDrawn_withEarlier :
    (s.withEarlier os).popBackoffIfDrawn = s.popBackoffIfDrawn.withEarlier os := by
  cases h : s.backoffDraws <;> simp [State.popBackoffIfDrawn, h]

@[simp] theorem startTx_withEarlier (k : TxKind) : (s.withEarlier os).startTx k = (s.startTx k).withEarlier os := by
  simp [State.startTx, mk_withEarlier os]

@[simp] theorem stopTx_withEarlier : (s.withEarlier os).stopTx = s.stopTx.withEarlier os := by
  simp [State.stopTx, mk_withEarlier os]

@[simp] theorem startRx_withEarlier : (s.withEarlier os).startRx = s.startRx.withEarlier os := by
  simp [State.startRx, mk_withEarlier os]

@[simp] theorem stopRx_withEarlier : (s.withEarlier os).stopRx = s.stopRx.withEarlier os := by
  simp [State.stopRx, mk_withEarlier os]

/-! ### CCA, CSMA and ACK retry -/

@[simp] theorem csmaStartOrTx_withEarlier : (s.withEarlier os).csmaStartOrTx = s.csmaStartOrTx.withEarlier os := by
  simp [State.csmaStartOrTx, mk_withEarlier os]

@[simp] theorem beginAret_withEarlier : (s.withEarlier os).beginAret = s.beginAret.withEarlier os := by
  simp [State.beginAret, mk_withEarlier os]

@[simp] theorem aretFinish_withEarlier (code : BitVec 3) :
    (s.withEarlier os).aretFinish code = (s.aretFinish code).withEarlier os := by
  simp [State.aretFinish, mk_withEarlier os]

@[simp] theorem aretCca_withEarlier : (s.withEarlier os).aretCca = s.aretCca.withEarlier os := by
  cases hb : s.ccaBusy s.ccaStartEnergy s.energyDraw with
  | false => simp [State.aretCca, hb]
  | true => by_cases hr : 0 < s.csmaRetries.toNat <;> simp [State.aretCca, hb, hr, mk_withEarlier os]

@[simp] theorem manualCcaComplete_withEarlier :
    (s.withEarlier os).manualCcaComplete = s.manualCcaComplete.withEarlier os := by
  simp [State.manualCcaComplete]

@[simp] theorem onCcaDelay_withEarlier : (s.withEarlier os).onCcaDelay = s.onCcaDelay.withEarlier os := by
  simp [State.onCcaDelay]

@[simp] theorem onAckTimeout_withEarlier : (s.withEarlier os).onAckTimeout = s.onAckTimeout.withEarlier os := by
  simp [State.onAckTimeout, mk_withEarlier os]

/-! ### Commands -/

@[simp] theorem abortSequence_withEarlier : (s.withEarlier os).abortSequence = s.abortSequence.withEarlier os := rfl

@[simp] theorem cmdTxStart_withEarlier : (s.withEarlier os).cmdTxStart = s.cmdTxStart.withEarlier os := by
  simp [State.cmdTxStart]

@[simp] theorem cmdManualCca_withEarlier : (s.withEarlier os).cmdManualCca = s.cmdManualCca.withEarlier os := rfl

@[simp] theorem runCommand_withEarlier (c : Command) :
    (s.withEarlier os).runCommand c = (s.runCommand c).withEarlier os := by
  cases c with
  | nop => rfl
  | txStart => exact cmdTxStart_withEarlier s os
  | forceTrxOff | trxOff => simp [State.runCommand, State.cmdForceTrxOff, State.cmdTrxOff]
  | forcePllOn | pllOn => simp [State.runCommand, State.cmdForcePllOn, State.cmdPllOn]
  | rxOn => simp [State.runCommand, State.cmdRxOn]
  | rxAackOn => simp [State.runCommand, State.cmdRxAackOn]
  | txAretOn => simp [State.runCommand, State.cmdTxAretOn]
  | invalid code => exact diag_withEarlier s os _
  | manualCca => exact cmdManualCca_withEarlier s os

@[simp] theorem commandInOff_withEarlier (c : Command) :
    (s.withEarlier os).commandInOff c = (s.commandInOff c).withEarlier os := by
  cases c with
  | nop => rfl
  | trxOff | forceTrxOff => exact setState_withEarlier s os _
  | txStart | forcePllOn | rxOn | pllOn | rxAackOn | txAretOn | invalid | manualCca => exact diag_withEarlier s os _

@[simp] theorem applyCommand_withEarlier (c : Command) :
    (s.withEarlier os).applyCommand c = (s.applyCommand c).withEarlier os := by
  simp [State.applyCommand]

@[simp] theorem writeTrxState_withEarlier (code : BitVec 5) :
    (s.withEarlier os).writeTrxState code = (s.writeTrxState code).withEarlier os :=
  applyCommand_withEarlier (State.setReg s _ _) os _

@[simp] theorem writePhyCcCca_withEarlier (request : Bool) (mode : BitVec 2) (channel : BitVec 5) :
    (s.withEarlier os).writePhyCcCca request mode channel = (s.writePhyCcCca request mode channel).withEarlier os := by
  simp [State.writePhyCcCca]

/-! ### Resets -/

@[simp] theorem resetFields_withEarlier : (s.withEarlier os).resetFields = s.resetFields.withEarlier os := by
  simp [State.resetFields, mk_withEarlier os]

@[simp] theorem powerOnReset_withEarlier : (s.withEarlier os).powerOnReset = s.powerOnReset.withEarlier os := by
  simp [State.powerOnReset]

@[simp] theorem explicitReset_withEarlier : (s.withEarlier os).explicitReset = s.explicitReset.withEarlier os := by
  simp [State.explicitReset]

/-! ### The control line -/

@[simp] theorem risingEdge_withEarlier : (s.withEarlier os).risingEdge = s.risingEdge.withEarlier os := by
  simp [State.risingEdge, State.enterSleep]

@[simp] theorem fallingEdge_withEarlier : (s.withEarlier os).fallingEdge = s.fallingEdge.withEarlier os := by
  simp [State.fallingEdge]

@[simp] theorem pinTransition_withEarlier (raised : Bool) :
    (s.withEarlier os).pinTransition raised = (s.pinTransition raised).withEarlier os := by
  simp [State.pinTransition]

@[simp] theorem pinInput_withEarlier (raised : Bool) :
    (s.withEarlier os).pinInput raised = (s.pinInput raised).withEarlier os := by
  simp [State.pinInput, mk_withEarlier os]

@[simp] theorem writeTrxpr_withEarlier (upper : BitVec 6) (slptr : Bool) :
    (s.withEarlier os).writeTrxpr upper slptr = (s.writeTrxpr upper slptr).withEarlier os := by
  simp [State.writeTrxpr, mk_withEarlier os]

@[simp] theorem onWakeup_withEarlier : (s.withEarlier os).onWakeup = s.onWakeup.withEarlier os := by
  simp [State.onWakeup]

/-! ### Host writes -/

@[simp] theorem hostWrite_withEarlier (a : Nat) (v : Byte) :
    (s.withEarlier os).hostWrite a v = (s.hostWrite a v).withEarlier os := by
  simp [State.hostWrite, State.writeReadOnly]

/-! ### The address filter -/

@[simp] theorem frameTypeCheck_withEarlier (v : Byte) :
    (s.withEarlier os).frameTypeCheck v = (s.frameTypeCheck v).withEarlier os := by
  unfold State.frameTypeCheck
  cases h : s.params.reservedFtPolicy <;> simp [h, State.rejectFrame, mk_withEarlier os]

@[simp] theorem panCheck_withEarlier : (s.withEarlier os).panCheck = s.panCheck.withEarlier os :=
  ite_eq_withEarlier os (ite_eq_withEarlier os rfl rfl) rfl

@[simp] theorem shortCheck_withEarlier : (s.withEarlier os).shortCheck = s.shortCheck.withEarlier os := by
  simp [State.shortCheck, State.rejectFrame, mk_withEarlier os]

@[simp] theorem extCheck_withEarlier : (s.withEarlier os).extCheck = s.extCheck.withEarlier os := by
  simp [State.extCheck, State.rejectFrame, mk_withEarlier os]

@[simp] theorem addressMatch_withEarlier (v : Byte) (p : Nat) :
    (s.withEarlier os).addressMatch v p = (s.addressMatch v p).withEarlier os := by
  simp [State.addressMatch, State.dstModeRecord, State.seqTrack, mk_withEarlier os]

/-! ### The Receiver -/

@[simp] theorem sampleRssi_withEarlier : (s.withEarlier os).sampleRssi = s.sampleRssi.withEarlier os := rfl

@[simp] theorem setRxCursor_withEarlier (c : RxCursor) :
    (s.withEarlier os).setRxCursor c = (s.setRxCursor c).withEarlier os := rfl

@[simp] theorem returnToListen_withEarlier : (s.withEarlier os).returnToListen = s.returnToListen.withEarlier os :=
  setState_withEarlier s os _

@[simp] theorem lockLost_withEarlier : (s.withEarlier os).lockLost = s.lockLost.withEarlier os := by
  cases hw : s.awaitingAck <;> cases hf : s.rx.st.inProgress <;> simp [State.lockLost, hw, hf]

@[simp] theorem sfdMatch_withEarlier : (s.withEarlier os).sfdMatch = s.sfdMatch.withEarlier os := by
  cases hq : s.rxDisabled || rxThresholdSuppresses s.pdtLevel s.rssi <;> cases hw : s.awaitingAck <;>
    simp [State.sfdMatch, hq, hw, mk_withEarlier os]

@[simp] theorem sync_withEarlier (v : Byte) : (s.withEarlier os).sync v = (s.sync v).withEarlier os := by
  simp [State.sync]

@[simp] theorem lengthByte_withEarlier (v : Byte) :
    (s.withEarlier os).lengthByte v = (s.lengthByte v).withEarlier os := by
  cases h : s.awaitingAck <;> simp [State.lengthByte, h, mk_withEarlier os]

@[simp] theorem ackSeqCheck_withEarlier (v : Byte) :
    (s.withEarlier os).ackSeqCheck v = (s.ackSeqCheck v).withEarlier os := by
  by_cases h : v = s.lastTxSeq <;> simp [State.ackSeqCheck, h, mk_withEarlier os]

@[simp] theorem takePayload_withEarlier (v : Byte) (p : Nat) :
    (s.withEarlier os).takePayload v p = (s.takePayload v p).withEarlier os := by
  simp [State.takePayload, mk_withEarlier os]

@[simp] theorem payloadByte_withEarlier (v : Byte) :
    (s.withEarlier os).payloadByte v = (s.payloadByte v).withEarlier os := by
  simp [State.payloadByte, mk_withEarlier os]

@[simp] theorem crcByte1_withEarlier (v : Byte) : (s.withEarlier os).crcByte1 v = (s.crcByte1 v).withEarlier os := by
  cases h : s.awaitingAck <;> simp [State.crcByte1, h, mk_withEarlier os]

@[simp] theorem acceptedEnd_withEarlier : (s.withEarlier os).acceptedEnd = s.acceptedEnd.withEarlier os := by
  simp [State.acceptedEnd, mk_withEarlier os]

@[simp] theorem ackFrameEnd_withEarlier : (s.withEarlier os).ackFrameEnd = s.ackFrameEnd.withEarlier os := by
  simp [State.ackFrameEnd, mk_withEarlier os]

@[simp] theorem rxEnd_withEarlier : (s.withEarlier os).rxEnd = s.rxEnd.withEarlier os :=
  ite_eq_withEarlier os (ackFrameEnd_withEarlier (s.setRxCursor .sfdScan) os)
    (ite_eq_withEarlier os (returnToListen_withEarlier (s.setRxCursor .sfdScan) os)
      (acceptedEnd_withEarlier (s.setRxCursor .sfdScan) os))

@[simp] theorem markCrc_withEarlier (ok : Bool) : (s.withEarlier os).markCrc ok = (s.markCrc ok).withEarlier os := rfl

@[simp] theorem crcCheck_withEarlier (v : Byte) : (s.withEarlier os).crcCheck v = (s.crcCheck v).withEarlier os := by
  simp [State.crcCheck]

@[simp] theorem crcByte2_withEarlier (v : Byte) : (s.withEarlier os).crcByte2 v = (s.crcByte2 v).withEarlier os := by
  simp [State.crcByte2]

@[simp] theorem receiveByte_withEarlier (v : Byte) :
    (s.withEarlier os).receiveByte v = (s.receiveByte v).withEarlier os := by
  unfold State.receiveByte
  cases h : s.rx.st <;> simp [h]

@[simp] theorem deliver_withEarlier (locked : Bool) (v : Byte) :
    (s.withEarlier os).deliver locked v = (s.deliver locked v).withEarlier os := by
  simp [State.deliver]

@[simp] theorem onAckTrigger_withEarlier : (s.withEarlier os).onAckTrigger = s.onAckTrigger.withEarlier os := by
  refine ite_eq_withEarlier os ?_ (ite_eq_withEarlier os (setState_withEarlier s os _) rfl)
  simp [mk_withEarlier os]

/-! ### The Transmitter -/

@[simp] theorem txEndAwait_withEarlier : (s.withEarlier os).txEndAwait = s.txEndAwait.withEarlier os := by
  simp [State.txEndAwait, mk_withEarlier os]

@[simp] theorem txEndDone_withEarlier : (s.withEarlier os).txEndDone = s.txEndDone.withEarlier os := by
  simp [State.txEndDone, mk_withEarlier os]

@[simp] theorem txEnd_withEarlier : (s.withEarlier os).txEnd = s.txEnd.withEarlier os := by
  refine ite_eq_withEarlier os ?_
    (ite_eq_withEarlier os (txEndAwait_withEarlier s os) (txEndDone_withEarlier s os))
  simp [State.txEndAck]

@[simp] theorem pullPreamble_withEarlier : (s.withEarlier os).pullPreamble = s.pullPreamble.withEarlier os := by
  unfold State.pullPreamble
  rw [← emit_withEarlier]
  rfl

@[simp] theorem pullSfd_withEarlier : (s.withEarlier os).pullSfd = s.pullSfd.withEarlier os := by
  unfold State.pullSfd
  rw [← emit_withEarlier]
  rfl

@[simp] theorem pullLength_withEarlier : (s.withEarlier os).pullLength = s.pullLength.withEarlier os := by
  unfold State.pullLength
  rw [← emit_withEarlier]
  rfl

@[simp] theorem pullPayload_withEarlier : (s.withEarlier os).pullPayload = s.pullPayload.withEarlier os := by
  unfold State.pullPayload
  rw [← emit_withEarlier]
  rfl

@[simp] theorem pullCrc1_withEarlier : (s.withEarlier os).pullCrc1 = s.pullCrc1.withEarlier os := by
  unfold State.pullCrc1
  rw [← emit_withEarlier]
  rfl

@[simp] theorem pullActive_withEarlier : (s.withEarlier os).pullActive = s.pullActive.withEarlier os := by
  unfold State.pullActive
  cases h : s.tx.st with
  | preamble | sfd | length | payload | crcByte1 => simp [h]
  | crcByte2 => simp [h, State.pullCrc2, mk_withEarlier os]
  | ended => simp [h]

/-! ### The inputs that may stop -/

/-- A firing is admitted alike whatever was output before, where its handler does the same. -/
theorem fire_withEarlier (e : Event) (handler : State → State)
    (h : ∀ t : State, handler (t.withEarlier os) = (handler t).withEarlier os) :
    fire e handler (s.withEarlier os) = Result.withEarlier (fire e handler s) os := by
  simp [fire, h]

theorem execAdv_withEarlier (n : BitVec 17) :
    execAdv n (s.withEarlier os) = Result.withEarlier (execAdv n s) os := by
  unfold execAdv
  cases h : s.pending.allows (s.now + n.toNat) <;> simp [h, mk_withEarlier os]

theorem execPull_withEarlier : execPull (s.withEarlier os) = Result.withEarlier (execPull s) os := by
  unfold execPull
  cases h : s.tx.active <;> simp [h]

/-! ### Every input, every step -/

/-- Every input does the same whatever was output before it, and makes the same outputs of its own (00_scope.md R12). -/
theorem exec_withEarlier (i : Instr) : exec i (s.withEarlier os) = Result.withEarlier (exec i s) os := by
  cases i with
  | rd addr => exact congrArg Host.Outcome.next (emit_withEarlier s os _)
  | wr addr data => exact congrArg Host.Outcome.next (hostWrite_withEarlier s os _ data)
  | wrFb index data => rfl
  | cmdNop | cmdTxStart | cmdForceTrxOff | cmdForcePllOn | cmdRxOn | cmdTrxOff | cmdPllOn | cmdRxAackOn | cmdTxAretOn
  | cmdInvalid01 | cmdInvalid05 | cmdInvalid07 | cmdInvalid0A | cmdInvalid0B | cmdInvalid0C | cmdInvalid0D | cmdInvalid0E
  | cmdInvalid0F | cmdInvalid10 | cmdInvalid11 | cmdInvalid12 | cmdInvalid13 | cmdInvalid14 | cmdInvalid15 | cmdInvalid17
  | cmdInvalid18 | cmdInvalid1A | cmdInvalid1B | cmdInvalid1C | cmdInvalid1D | cmdInvalid1E | cmdInvalid1F =>
    exact congrArg Host.Outcome.next (writeTrxState_withEarlier s os _)
  | cca mode channel | wrPhyCcCca mode channel =>
    exact congrArg Host.Outcome.next (writePhyCcCca_withEarlier s os _ mode channel)
  | trxrst | resetExplicit => exact congrArg Host.Outcome.next (explicitReset_withEarlier s os)
  | wrTrxprSlptr upper slptr => exact congrArg Host.Outcome.next (writeTrxpr_withEarlier s os upper slptr)
  | clrirq clearMask => exact congrArg Host.Outcome.next (clearIrq_withEarlier s os clearMask)
  | wrIrqMask mask => exact congrArg Host.Outcome.next (writeIrqMask_withEarlier s os mask)
  | wrRoTrxStatus | wrRoPhyRssi | wrRoPhyEdLevel | wrRoTstRxLength =>
    exact congrArg Host.Outcome.next (diag_withEarlier s os _)
  | pull => exact execPull_withEarlier s os
  | rxbL byte | rxbU byte => exact congrArg Host.Outcome.next (deliver_withEarlier s os _ byte)
  | fireCcaDelay => exact fire_withEarlier s os .ccaDelay _ fun t => onCcaDelay_withEarlier t os
  | fireWakeup => exact fire_withEarlier s os .wakeup _ fun t => onWakeup_withEarlier t os
  | fireAckTimeout => exact fire_withEarlier s os .ackTimeout _ fun t => onAckTimeout_withEarlier t os
  | fireAckTrigger => exact fire_withEarlier s os .ackTrigger _ fun t => onAckTrigger_withEarlier t os
  | pin1 | pin0 => exact congrArg Host.Outcome.next (pinInput_withEarlier s os _)
  | resetPor => exact congrArg Host.Outcome.next (powerOnReset_withEarlier s os)
  | adv n => exact execAdv_withEarlier s os n

theorem step_withEarlier : step (s.withEarlier os) = Result.withEarlier (step s) os := by
  cases h : s.inputs with
  | nil =>
    have h' : (s.withEarlier os).inputs = [] := h
    rw [step_of_inputs_nil h, step_of_inputs_nil h', Result.fault_withEarlier]
  | cons w rest =>
    have h' : (s.withEarlier os).inputs = w :: rest := h
    rw [step_of_inputs_cons h, step_of_inputs_cons h']
    exact exec_withEarlier { s with inputs := rest } os (decode w)

/-- A step is the step of the state with no output made yet, the outputs made so far put before. -/
theorem step_setOutputs :
    step { s with outputs := os } = Result.withEarlier (step { s with outputs := [] }) os := by
  rw [setOutputs_eq_withEarlier, step_withEarlier]

end

end Sys2Proof.Machine

section
open Sys2Proof.Machine

/-- Settles O5: the two cases of the list of inputs offered. -/
theorem stepRunsDecodedInput : Obligations.StepRunsDecodedInput := by
  unfold Obligations.StepRunsDecodedInput
  exact ⟨fun _ _ _ h => step_of_inputs_cons h, fun _ h => step_of_inputs_nil h⟩

/-- Settles O59: both steps are the step with no output made yet, each with its own outputs put before (`step_setOutputs`); the
new outputs are that step's. -/
theorem outputsDoNotFeedBack : Obligations.OutputsDoNotFeedBack := by
  unfold Obligations.OutputsDoNotFeedBack
  intro s before
  have hs : step s = Result.withEarlier (step { s with outputs := [] }) s.outputs := step_setOutputs s s.outputs
  rw [hs, step_setOutputs s before]
  cases step { s with outputs := [] } with
  | next t => exact ⟨by rintro _ ⟨rfl⟩; exact ⟨t.outputs, rfl, rfl⟩, by rintro _ ⟨⟩⟩
  | fault f => exact ⟨by rintro _ ⟨⟩, by rintro _ ⟨rfl⟩; rfl⟩
  | refused f => exact ⟨by rintro _ ⟨⟩, by rintro _ ⟨⟩⟩

end

/-! ### O54, O55, O56: what every step keeps -/

namespace Sys2Proof

/-! ### Fields of fields, and fields that two words share -/

theorem field_field {w : Nat} (v : BitVec w) (lo n k j : Nat) (h : k + j ≤ n) :
    field (field v lo n) k j = field v (lo + k) j := by
  apply ext_bit
  intro i hi
  have hn : k + i < n := by omega
  simp [bit_field, hi, hn, Nat.add_assoc]

theorem bit_eq_of_field_eq {w : Nat} {x y : BitVec w} {n i : Nat} (h : field x 0 n = field y 0 n) (hi : i < n) :
    bit x i = bit y i := by
  have hBit := congrArg (bit · i) h
  simpa [bit_field, hi] using hBit

theorem field_eq_of_field_eq {w : Nat} {x y : BitVec w} {n j : Nat} (h : field x 0 n = field y 0 n) (hj : j ≤ n) :
    field x 0 j = field y 0 j :=
  ext_bit fun i hi => by simpa [bit_field, hi] using bit_eq_of_field_eq h (show i < n by omega)

/-- Setting a bit above a field leaves the field. -/
theorem field_or_shift (v : Byte) {n j : Nat} (h : j ≤ n) : field (v ||| 1#8 <<< n) 0 j = field v 0 j := by
  apply ext_bit
  intro i hi
  have hBelow : bit (1#8 <<< n) i = false := by
    have hn : i < n := by omega
    simp [bit, hn]
  simp [bit_field, bit_or, hBelow]

theorem bit_zero (w i : Nat) : bit (0#w) i = false := by simp [bit]

/-- Clearing bits leaves a field that is 0. -/
theorem field_and_eq_zero {v : Byte} {n : Nat} (m : Byte) (h : field v 0 n = 0#n) : field (v &&& m) 0 n = 0#n := by
  apply ext_bit
  intro i hi
  have hv : bit v i = false := by
    have hBit := congrArg (bit · i) h
    simpa [bit_field, hi, bit_zero] using hBit
  simp [bit_field, bit_and, hv, bit_zero]

end Sys2Proof

namespace Sys2Proof.Machine

/-! ### What a step can do

Many rows of the opcode table do the same thing with other operands. `Effect` lists the things done, once; an invariant is proved
over its cases and not over the rows. -/

/-- The next states an admitted input has, by what the rules do with it. -/
inductive Effect (s : State) : State → Prop where
  /-- A host read, or a write of a read-only register (20_memory.md R82, R84). -/
  | emitted (o : Output) : Effect s (s.emit o)
  /-- A host write of plain storage (R83). -/
  | stored (a : Nat) (v : Byte) (ha : a < 0x200) (hp : a ∉ specialWriteAddrs) : Effect s (s.setReg a v)
  | commandWritten (code : BitVec 5) : Effect s (s.writeTrxState code)
  | ccCcaWritten (request : Bool) (mode : BitVec 2) (channel : BitVec 5) : Effect s (s.writePhyCcCca request mode channel)
  | trxprWritten (upper : BitVec 6) (slptr : Bool) : Effect s (s.writeTrxpr upper slptr)
  | irqCleared (v : Byte) : Effect s (s.clearIrq v)
  | irqMasked (v : Byte) : Effect s (s.writeIrqMask v)
  /-- A pull with the Transmitter stopped (42_transmitter.md R202). -/
  | pulledStopped : Effect s ((s.emit (.txByte 0x00#8)).diag .pullWhileStopped)
  | pulled (ha : s.tx.active = true) (hl : s.tx.leadUntil ≤ s.now) : Effect s s.pullActive
  | delivered (locked : Bool) (b : Byte) : Effect s (s.deliver locked b)
  | ccaDelayFired (hd : s.pending.get .ccaDelay = some s.now) : Effect s (s.cancel .ccaDelay).onCcaDelay
  | wakeupFired (hd : s.pending.get .wakeup = some s.now) : Effect s (s.cancel .wakeup).onWakeup
  | ackTimeoutFired (hd : s.pending.get .ackTimeout = some s.now) : Effect s (s.cancel .ackTimeout).onAckTimeout
  | ackTriggerFired (hd : s.pending.get .ackTrigger = some s.now) : Effect s (s.cancel .ackTrigger).onAckTrigger
  | pinned (raised : Bool) : Effect s (s.pinInput raised)
  | poweredOn : Effect s s.powerOnReset
  | restarted : Effect s s.explicitReset
  | advanced (n : BitVec 17) (hn : s.pending.allows (s.now + n.toNat) = true) : Effect s { s with now := s.now + n.toNat }

/-- The frame buffer lies above the registers (20_memory.md R80). -/
theorem fbAddr_notMem (i : BitVec 7) {l : List Nat} (h : ∀ a ∈ l, a < 0x180) : fbAddr i ∉ l := fun hm =>
  Nat.not_lt.mpr (fbAddr_ge i) (h _ hm)

/-- A host write does what the map of R83 says, on any address. -/
theorem hostWrite_effect (s : State) (a : Nat) (v : Byte) (ha : a < 0x200) : Effect s (s.hostWrite a v) := by
  unfold State.hostWrite
  split_ifs with hTrxpr hReset hTrxState hCcCca hStatus hMask hReadOnly
  · exact .restarted
  · exact .trxprWritten _ _
  · exact .commandWritten _
  · exact .ccCcaWritten _ _ _
  · exact .irqCleared v
  · exact .irqMasked v
  · exact .emitted _
  · exact .stored a v ha (by simp_all [specialWriteAddrs])

/-- A row that always completes has the effect its meaning has. -/
theorem effect_of_next {s t u : State} (hu : Effect s u) (h : (.next u : Result) = .next t) : Effect s t := by
  cases h
  exact hu

/-- A firing's effect is that of its handler, the event cleared (60_exceptions.md R384). -/
theorem effect_of_fire {s t : State} {e : Event} {handler : State → State} (h : fire e handler s = .next t)
    (hu : s.pending.get e = some s.now → Effect s (handler (s.cancel e))) : Effect s t := by
  obtain ⟨hd, rfl⟩ := fire_next s e handler t h
  exact hu hd

theorem execPull_effect {s t : State} (h : execPull s = .next t) : Effect s t := by
  unfold execPull at h
  split_ifs at h with ha hl
  · exact effect_of_next (.pulled ha hl) h
  · exact effect_of_next .pulledStopped h

theorem execAdv_effect {s t : State} {n : BitVec 17} (h : execAdv n s = .next t) : Effect s t := by
  unfold execAdv at h
  split_ifs at h with hn
  exact effect_of_next (.advanced n hn) h

/-- Every input that completes has one of the effects. -/
theorem exec_effect {i : Instr} {s t : State} (h : exec i s = .next t) : Effect s t := by
  cases i with
  | rd addr => exact effect_of_next (.emitted _) h
  | wr addr data => exact effect_of_next (hostWrite_effect s addr.toNat data addr.isLt) h
  | wrFb index data =>
    exact effect_of_next (.stored (fbAddr index) data (fbAddr_lt index) (fbAddr_notMem index (by decide))) h
  | cmdNop | cmdTxStart | cmdForceTrxOff | cmdForcePllOn | cmdRxOn | cmdTrxOff | cmdPllOn | cmdRxAackOn | cmdTxAretOn
  | cmdInvalid01 | cmdInvalid05 | cmdInvalid07 | cmdInvalid0A | cmdInvalid0B | cmdInvalid0C | cmdInvalid0D | cmdInvalid0E
  | cmdInvalid0F | cmdInvalid10 | cmdInvalid11 | cmdInvalid12 | cmdInvalid13 | cmdInvalid14 | cmdInvalid15 | cmdInvalid17
  | cmdInvalid18 | cmdInvalid1A | cmdInvalid1B | cmdInvalid1C | cmdInvalid1D | cmdInvalid1E | cmdInvalid1F =>
    exact effect_of_next (.commandWritten _) h
  | cca mode channel => exact effect_of_next (.ccCcaWritten true mode channel) h
  | wrPhyCcCca mode channel => exact effect_of_next (.ccCcaWritten false mode channel) h
  | trxrst | resetExplicit => exact effect_of_next .restarted h
  | wrTrxprSlptr upper slptr => exact effect_of_next (.trxprWritten upper slptr) h
  | clrirq clearMask => exact effect_of_next (.irqCleared clearMask) h
  | wrIrqMask mask => exact effect_of_next (.irqMasked mask) h
  | wrRoTrxStatus | wrRoPhyRssi | wrRoPhyEdLevel | wrRoTstRxLength => exact effect_of_next (.emitted _) h
  | pull => exact execPull_effect h
  | rxbL b => exact effect_of_next (.delivered true b) h
  | rxbU b => exact effect_of_next (.delivered false b) h
  | fireCcaDelay => exact effect_of_fire h .ccaDelayFired
  | fireWakeup => exact effect_of_fire h .wakeupFired
  | fireAckTimeout => exact effect_of_fire h .ackTimeoutFired
  | fireAckTrigger => exact effect_of_fire h .ackTriggerFired
  | pin1 => exact effect_of_next (.pinned true) h
  | pin0 => exact effect_of_next (.pinned false) h
  | resetPor => exact effect_of_next .poweredOn h
  | adv n => exact execAdv_effect h

/-- A step that completes has one of the effects on the state whose next input is taken. -/
theorem step_effect {s t : State} (h : step s = .next t) : Effect { s with inputs := s.inputs.tail } t := by
  cases hi : s.inputs with
  | nil =>
    rw [step_of_inputs_nil hi] at h
    cases h
  | cons w rest =>
    rw [step_of_inputs_cons hi] at h
    exact exec_effect h

/-! ### What a step can write in the Register File

The invariants of the Register File read it, `S`, `pinLevel` and `lastCRCok`. Every effect reaches these by a chain of the few
updates of `RegisterMoves`, so an invariant has to be shown for each of those only. -/

/-- What the invariants of the Register File read of a state. -/
def State.regView (s : State) : Memory × Nat × OpState × Bool × Bool :=
  (s.regFile, s.resets, s.opState, s.pinLevel, s.lastCrcOk)

theorem reg_of_regView_eq {t u : State} (h : u.regView = t.regView) (a : Nat) : u.reg a = t.reg a := by
  simp only [State.regView, Prod.mk.injEq] at h
  obtain ⟨hm, hr, -⟩ := h
  simp only [State.reg, hm, hr]

/-- The registers with bits that mirror internal state, read 0 or hold TRAC_STATUS. -/
def mirrorAddrs : List Nat :=
  [Addr.trxpr, Addr.trxStatus, Addr.trxState, Addr.phyRssi, Addr.phyCcCca, Addr.irqStatus]

theorem mirrorAddrs_subset {a : Nat} (h : a ∈ mirrorAddrs) : a ∈ specialWriteAddrs :=
  (by decide : ∀ a ∈ mirrorAddrs, a ∈ specialWriteAddrs) a h

/-- `t` comes from `s` by updates of the Register File, of `S`, `pinLevel` and `lastCRCok` that the rules make, and by any others
of the rest. -/
inductive RegisterMoves (s : State) : State → Prop where
  | refl : RegisterMoves s s
  | elsewhere {t u : State} (h : RegisterMoves s t) (hu : u.regView = t.regView := by rfl) :
    RegisterMoves s u
  | stored {t : State} (h : RegisterMoves s t) (a : Nat) (v : Byte) (ha : a < 0x200) (hm : a ∉ mirrorAddrs) :
    RegisterMoves s (t.setReg a v)
  | entered {t : State} (h : RegisterMoves s t) (x : OpState) : RegisterMoves s (t.setState x)
  | posted {t : State} (h : RegisterMoves s t) (l : IrqLine) (hl : 2 ≤ l.bitNo) : RegisterMoves s (t.post l)
  | irqCleared {t : State} (h : RegisterMoves s t) (v : Byte) : RegisterMoves s (t.clearIrq v)
  | commandStored {t : State} (h : RegisterMoves s t) (code : BitVec 5) :
    RegisterMoves s (t.setReg Addr.trxState (cat 8 (field (t.reg Addr.trxState) 5 3) code))
  | tracSet {t : State} (h : RegisterMoves s t) (c : BitVec 3) (hc : c = 0#3 ∨ c = 3#3 ∨ c = 5#3) :
    RegisterMoves s (t.setTrac c)
  | ccCcaStored {t : State} (h : RegisterMoves s t) (v : BitVec 7) :
    RegisterMoves s (t.setReg Addr.phyCcCca (cat 8 0#1 v))
  /-- CCA_DONE and CCA_STATUS (R25). -/
  | ccaReported {t : State} (h : RegisterMoves s t) (v : Byte) (hv : field v 0 6 = field (t.reg Addr.trxStatus) 0 6) :
    RegisterMoves s (t.setReg Addr.trxStatus v)
  | rssiSampled {t : State} (h : RegisterMoves s t) : RegisterMoves s t.sampleRssi
  | crcMarked {t : State} (h : RegisterMoves s t) (ok : Bool) : RegisterMoves s (t.markCrc ok)
  | trxprStored {t : State} (h : RegisterMoves s t) (v : Byte) (level : Bool) (hl : bit v 1 = level)
    (h0 : bit v 0 = false ∨ bit v 0 = bit (t.reg Addr.trxpr) 0) :
    RegisterMoves s { t.setReg Addr.trxpr v with pinLevel := level }
  | reset {u : State} (n : Nat) (hu : u.regView = ([], n, .off, false, false)) : RegisterMoves s u

namespace RegisterMoves

section
variable {s t u : State} (h : RegisterMoves s t)

theorem ite {c : Prop} [Decidable c] (ht : RegisterMoves s t) (hu : RegisterMoves s u) :
    RegisterMoves s (if c then t else u) := by
  split
  · exact ht
  · exact hu

include h

theorem fbStored (i : BitVec 7) (v : Byte) : RegisterMoves s (t.setFb i v) :=
  h.stored (fbAddr i) v (fbAddr_lt i) (fbAddr_notMem i (by decide))

theorem edLevelStored (v : Byte) : RegisterMoves s (t.setReg Addr.phyEdLevel v) :=
  h.stored _ v (by decide) (by decide)

/-! ### The units, CCA and CSMA -/

theorem startTx (k : TxKind) : RegisterMoves s (t.startTx k) := h.elsewhere (by simp [State.regView])
theorem stopTx : RegisterMoves s t.stopTx := h.elsewhere (by simp [State.regView])
theorem startRx : RegisterMoves s t.startRx := h.elsewhere (by simp [State.regView])
theorem stopRx : RegisterMoves s t.stopRx := h.elsewhere (by simp [State.regView])

theorem csmaStartOrTx : RegisterMoves s t.csmaStartOrTx := ite (h.startTx _) h.elsewhere

theorem beginAret : RegisterMoves s t.beginAret := by
  unfold State.beginAret
  exact csmaStartOrTx (h.entered .busyTxAret).elsewhere

theorem aretFinish (c : BitVec 3) (hc : c = 0#3 ∨ c = 3#3 ∨ c = 5#3) : RegisterMoves s (t.aretFinish c) := by
  unfold State.aretFinish
  extract_lets cleared txStopped stopped
  have hCleared : RegisterMoves s cleared := h.elsewhere
  have hTx : RegisterMoves s txStopped := ite hCleared.stopTx hCleared
  have hStopped : RegisterMoves s stopped := ite hTx.stopRx hTx
  exact ((hStopped.tracSet c hc).entered _).posted _ (by decide)

theorem aretCca : RegisterMoves s t.aretCca := by
  have hDrawn : RegisterMoves s t.popEnergy := h.elsewhere
  exact ite (ite (hDrawn.elsewhere (by simp [State.regView])) (hDrawn.aretFinish _ (by decide))) (hDrawn.startTx _)

theorem manualCcaComplete : RegisterMoves s t.manualCcaComplete := by
  have hDrawn : RegisterMoves s t.popEnergy := h.elsewhere
  exact ((hDrawn.ccaReported _ (by simp [field_cat_low])).edLevelStored _).posted _ (by decide)

theorem onCcaDelay : RegisterMoves s t.onCcaDelay := ite h.aretCca h.manualCcaComplete

theorem onAckTimeout : RegisterMoves s t.onAckTimeout := by
  have hStopped : RegisterMoves s (State.stopRx { t with awaitingAck := false }) := stopRx h.elsewhere
  exact ite (ite (csmaStartOrTx hStopped.elsewhere) (hStopped.aretFinish _ (by decide))) h

/-! ### Commands -/

theorem abortSequence : RegisterMoves s t.abortSequence := h.elsewhere

theorem unitsStopped (x : OpState) : RegisterMoves s (t.abortSequence.stopTx.stopRx.setState x) :=
  h.abortSequence.stopTx.stopRx.entered x

theorem listening (x : OpState) : RegisterMoves s (t.abortSequence.stopTx.startRx.setState x) :=
  h.abortSequence.stopTx.startRx.entered x

theorem cmdTxStart : RegisterMoves s t.cmdTxStart :=
  ite ((h.entered _).startTx _) (ite h.beginAret h.elsewhere)

theorem cmdManualCca : RegisterMoves s t.cmdManualCca := by
  have hCleared := h.ccaReported (cat 8 0#1 (field (t.reg Addr.trxStatus) 0 7)) (by simp [field_cat_low, field_field])
  exact hCleared.elsewhere

theorem runCommand (c : Command) : RegisterMoves s (t.runCommand c) := by
  cases c with
  | nop => exact h
  | txStart => exact h.cmdTxStart
  | forceTrxOff | forcePllOn | trxOff | pllOn | txAretOn => exact h.unitsStopped _
  | rxOn | rxAackOn => exact h.listening _
  | invalid code => exact h.elsewhere
  | manualCca => exact h.cmdManualCca

theorem commandInOff (c : Command) : RegisterMoves s (t.commandInOff c) := by
  cases c with
  | trxOff | forceTrxOff => exact h.entered _
  | nop => exact h
  | txStart | forcePllOn | rxOn | pllOn | rxAackOn | txAretOn | invalid | manualCca => exact h.elsewhere

theorem applyCommand (c : Command) : RegisterMoves s (t.applyCommand c) :=
  ite h.elsewhere (ite (h.commandInOff c) (h.runCommand c))

theorem writeTrxState (code : BitVec 5) : RegisterMoves s (t.writeTrxState code) :=
  (h.commandStored code).applyCommand _

theorem writePhyCcCca (request : Bool) (mode : BitVec 2) (channel : BitVec 5) :
    RegisterMoves s (t.writePhyCcCca request mode channel) :=
  ite ((h.ccCcaStored _).applyCommand _) (h.ccCcaStored _)

/-! ### The control line -/

theorem risingEdge : RegisterMoves s t.risingEdge :=
  ite ((h.entered _).edLevelStored _) (ite ((h.entered _).startTx _) (ite h.beginAret h.elsewhere))

theorem pinTransition (raised : Bool) : RegisterMoves s (t.pinTransition raised) :=
  ite h.risingEdge (ite (h.entered _).elsewhere h)

theorem pinInput (raised : Bool) : RegisterMoves s (t.pinInput raised) :=
  ite h.elsewhere
    (pinTransition (h.trxprStored _ raised (by simp [bit_cat]) (.inr (by simp [bit_cat, bit_field]))) raised)

theorem writeTrxpr (upper : BitVec 6) (slptr : Bool) : RegisterMoves s (t.writeTrxpr upper slptr) := by
  have hStored := h.trxprStored (cat 8 upper (cat 2 (bitOf slptr) 0#1)) slptr (by simp [bit_cat])
    (.inl (by simp [bit_cat]; rfl))
  exact ite hStored (hStored.pinTransition _)

theorem onWakeup : RegisterMoves s t.onWakeup := ite ((h.entered _).posted _ (by decide)) h

/-! ### The Receiver -/

theorem addressMatch (b : Byte) (p : Nat) : RegisterMoves s (t.addressMatch b p) := by
  have hRejected : RegisterMoves s t.rejectFrame := h.elsewhere
  have hPosted : RegisterMoves s (t.post .ami) := h.posted _ (by decide)
  have hType : RegisterMoves s (t.frameTypeCheck b) := by
    unfold State.frameTypeCheck
    split
    · split
      · exact hRejected
      · exact h.elsewhere
    · exact h
  have hPan : RegisterMoves s t.panCheck := ite (ite hRejected h) h
  have hShort : RegisterMoves s t.shortCheck := ite (ite hPosted hRejected) h
  have hExt : RegisterMoves s t.extCheck := ite (ite hPosted hRejected) h
  exact ite h (ite hType (ite h.elsewhere (ite h.elsewhere (ite hPan (ite hShort (ite hExt h))))))

theorem returnToListen : RegisterMoves s t.returnToListen := h.entered _

theorem lockLost : RegisterMoves s t.lockLost := by
  have hScan : RegisterMoves s (t.setRxCursor .sfdScan) := h.elsewhere
  exact ite (ite hScan.elsewhere hScan) (ite hScan.returnToListen hScan)

theorem sfdMatch : RegisterMoves s t.sfdMatch := by
  unfold State.sfdMatch
  extract_lets _ begun cleared
  have hBegun : RegisterMoves s begun := h.elsewhere
  have hCleared : RegisterMoves s cleared := hBegun.edLevelStored _
  exact ite h.elsewhere (ite hCleared ((hCleared.entered _).posted _ (by decide)))

theorem sync (b : Byte) : RegisterMoves s (t.sync b) :=
  ite (ite h.elsewhere h) (ite h.sfdMatch (ite h h.elsewhere))

theorem lengthByte (b : Byte) : RegisterMoves s (t.lengthByte b) := by
  have hScan : RegisterMoves s (t.setRxCursor .sfdScan) := h.elsewhere
  refine ite (ite hScan hScan.returnToListen) (ite h.elsewhere ?_)
  exact stored (fbStored h.elsewhere _ _) _ _ (by decide) (by decide)

theorem takePayload (b : Byte) (p : Nat) : RegisterMoves s (t.takePayload b p) := by
  unfold State.takePayload
  extract_lets stored _ asked
  have hStored : RegisterMoves s stored := h.fbStored _ _
  have hAsked : RegisterMoves s asked := ite hStored.elsewhere hStored
  refine ite ?_ hAsked
  exact addressMatch hAsked.elsewhere b p

theorem ackSeqCheck (b : Byte) : RegisterMoves s (t.ackSeqCheck b) := ite h.elsewhere h.elsewhere

theorem payloadByte (b : Byte) : RegisterMoves s (t.payloadByte b) := by
  unfold State.payloadByte
  extract_lets p _ counted taken
  have hCounted : RegisterMoves s counted := h.elsewhere
  have hTaken : RegisterMoves s taken := ite (ite (hCounted.ackSeqCheck b) hCounted) (hCounted.takePayload b p)
  exact ite hTaken.elsewhere hTaken

theorem crcByte1 (b : Byte) : RegisterMoves s (t.crcByte1 b) := by
  refine ite h.elsewhere ?_
  exact fbStored h.elsewhere _ _

theorem acceptedEnd : RegisterMoves s t.acceptedEnd := by
  have hPosted := h.posted .rxEnd (by decide)
  exact ite hPosted.elsewhere hPosted.returnToListen

theorem ackFrameEnd : RegisterMoves s t.ackFrameEnd := by
  unfold State.ackFrameEnd
  extract_lets stopped
  have hStopped : RegisterMoves s stopped := stopRx h.elsewhere
  refine ite ?_ h.elsewhere
  exact posted (tracSet (entered hStopped.elsewhere _) _ (by decide)) _ (by decide)

theorem rxEnd : RegisterMoves s t.rxEnd := by
  have hScan : RegisterMoves s (t.setRxCursor .sfdScan) := h.elsewhere
  exact ite hScan.ackFrameEnd (ite hScan.returnToListen hScan.acceptedEnd)

theorem crcByte2 (b : Byte) : RegisterMoves s (t.crcByte2 b) := by
  have hMarked := h.crcMarked (t.crcMatches b)
  have hChecked : RegisterMoves s (t.crcCheck b) := ite hMarked (hMarked.fbStored _ _)
  exact rxEnd hChecked.elsewhere

theorem receiveByte (b : Byte) : RegisterMoves s (t.receiveByte b) := by
  unfold State.receiveByte
  split
  · exact h.sync b
  · exact h.sync b
  · exact h.lengthByte b
  · exact h.payloadByte b
  · exact h.crcByte1 b
  · exact h.crcByte2 b
  · exact h

theorem deliver (locked : Bool) (b : Byte) : RegisterMoves s (t.deliver locked b) :=
  ite (ite (h.rssiSampled.receiveByte b) h.rssiSampled.lockLost) h

theorem onAckTrigger : RegisterMoves s t.onAckTrigger := by
  refine ite ?_ (ite (h.entered _) h)
  exact startTx (stopRx h.elsewhere) _

/-! ### The Transmitter -/

theorem txEnd : RegisterMoves s t.txEnd := by
  have hDone : RegisterMoves s t.txEndDone := by
    refine posted (tracSet (ite ?_ (h.stopTx.entered _)) _ (by decide)) _ (by decide)
    exact entered h.stopTx.elsewhere _
  refine ite (h.stopTx.startRx.entered _) (ite ?_ hDone)
  exact startRx (stopTx h.elsewhere)

theorem pullActive : RegisterMoves s t.pullActive := by
  unfold State.pullActive
  split
  · exact h.elsewhere
  · exact h.elsewhere
  · exact h.elsewhere
  · exact h.elsewhere
  · exact h.elsewhere
  · exact txEnd h.elsewhere
  · exact h

omit h

/-! ### Resets -/

theorem powerOnReset : RegisterMoves s s.powerOnReset := .reset (s.resets + 1) rfl

theorem resetFields : RegisterMoves s s.resetFields := .reset (s.resets + 1) rfl

theorem explicitReset : RegisterMoves s s.explicitReset := resetFields.entered _

end

end RegisterMoves

/-- Every effect is a chain of the updates. -/
theorem Effect.registerMoves {s t : State} (h : Effect s t) : RegisterMoves s t := by
  have hs : RegisterMoves s s := .refl
  cases h with
  | emitted | pulledStopped | advanced => exact hs.elsewhere
  | stored a v ha hp => exact hs.stored a v ha fun hm => hp (mirrorAddrs_subset hm)
  | commandWritten code => exact hs.writeTrxState code
  | ccCcaWritten request mode channel => exact hs.writePhyCcCca request mode channel
  | trxprWritten upper slptr => exact hs.writeTrxpr upper slptr
  | irqCleared v => exact hs.irqCleared v
  | irqMasked v => exact (hs.stored Addr.irqMask v (by decide) (by decide)).elsewhere
  | pulled => exact hs.pullActive
  | delivered locked b => exact hs.deliver locked b
  | ccaDelayFired => exact .onCcaDelay hs.elsewhere
  | wakeupFired => exact .onWakeup hs.elsewhere
  | ackTimeoutFired => exact .onAckTimeout hs.elsewhere
  | ackTriggerFired => exact .onAckTrigger hs.elsewhere
  | pinned raised => exact hs.pinInput raised
  | poweredOn => exact .powerOnReset
  | restarted => exact .explicitReset

/-- Every step is a chain of the updates. -/
theorem step_registerMoves {s t : State} (h : step s = .next t) : RegisterMoves { s with inputs := s.inputs.tail } t :=
  (step_effect h).registerMoves

/-! ### The invariants of the Register File, update by update -/

/-- Every update writes inside the 9-bit space (20_memory.md R80). -/
theorem RegisterMoves.memoryCanonical {s t : State} (h : RegisterMoves s t) (hs : s.MemoryCanonical) :
    t.MemoryCanonical := by
  induction h with
  | refl => exact hs
  | elsewhere _ hu ih =>
    simp only [State.regView, Prod.mk.injEq] at hu
    obtain ⟨hm, -⟩ := hu
    rwa [State.MemoryCanonical, hm]
  | stored _ a v ha _ ih => exact wf_write _ _ _ ha ih
  | entered | posted | irqCleared | commandStored | tracSet | ccCcaStored | ccaReported | rssiSampled | crcMarked
  | trxprStored =>
    rename_i ih
    exact wf_write _ _ _ (by decide) ih
  | reset n hu =>
    simp only [State.regView, Prod.mk.injEq] at hu
    obtain ⟨hm, -⟩ := hu
    rw [State.MemoryCanonical, hm, wf_nil]

/-- After a reset a named register reads its reset value (10_state.md R23). -/
theorem reg_of_reset {u : State} {n : Nat} (hu : u.regView = ([], n, .off, false, false)) {a : Nat} {v : Byte}
    (ha : fixedReset a = some v) : u.reg a = v := by
  simp only [State.regView, Prod.mk.injEq] at hu
  obtain ⟨hm, hr, -⟩ := hu
  simp [State.reg, readMem, hm, Memory.lookup, unlisted, ha]

theorem RegisterMoves.tracLegal {s t : State} (h : RegisterMoves s t) (hs : s.TracLegal) : t.TracLegal := by
  induction h with
  | refl => exact hs
  | elsewhere _ hu ih => rwa [State.TracLegal, reg_of_regView_eq hu]
  | stored _ a v _ hm ih =>
    have ha : a ≠ Addr.trxState := fun ha => hm (by rw [ha]; decide)
    rwa [State.TracLegal, setReg_reg, if_neg ha.symm]
  | commandStored _ code ih =>
    rwa [State.TracLegal, setReg_reg, if_pos rfl, field_cat_high _ _ _ _ _ (by omega) (by omega), field_zero_full]
  | tracSet _ c hc ih =>
    rwa [State.TracLegal, setTrac_reg, if_pos rfl, field_cat_high _ _ _ _ _ (by omega) (by omega), field_zero_full]
  | entered | posted | irqCleared | ccCcaStored | ccaReported | rssiSampled | crcMarked | trxprStored =>
    rename_i ih
    simpa [State.TracLegal, State.sampleRssi, State.markCrc] using ih
  | reset n hu =>
    have hZero := reg_of_reset hu (show fixedReset Addr.trxState = some 0x00#8 by decide)
    exact .inl (by rw [hZero]; decide)

theorem RegisterMoves.mirrors {s t : State} (h : RegisterMoves s t) (hs : s.Mirrors) : t.Mirrors := by
  induction h with
  | refl => exact hs
  | elsewhere _ hu ih =>
    have hReg := reg_of_regView_eq hu
    simp only [State.regView, Prod.mk.injEq] at hu
    obtain ⟨-, -, hState, hPin, hCrc⟩ := hu
    simpa only [State.Mirrors, hReg, hState, hPin, hCrc] using ih
  | stored _ a v _ hm ih =>
    have hOther (b : Nat) (hb : b ∈ mirrorAddrs) : b ≠ a := fun hba => hm (hba ▸ hb)
    simpa (disch := decide) [State.Mirrors, hOther] using ih
  | entered _ x ih =>
    obtain ⟨-, h5, hRest⟩ := ih
    simpa [State.Mirrors, bit_cat, bit_field, h5] using hRest
  | posted _ l hl ih => simpa [State.Mirrors, field_or_shift _ hl] using ih
  | irqCleared _ v ih =>
    obtain ⟨hCode, h5, hPin, hRst, hCrc, hRnd, hReq, hPll⟩ := ih
    simpa [State.Mirrors, field_and_eq_zero _ hPll] using ⟨hCode, h5, hPin, hRst, hCrc, hRnd, hReq⟩
  | commandStored _ code ih => simpa [State.Mirrors] using ih
  | tracSet _ c hc ih => simpa [State.Mirrors] using ih
  | ccCcaStored _ v ih =>
    obtain ⟨hCode, h5, hPin, hRst, hCrc, hRnd, -, hPll⟩ := ih
    have hClear : bit (cat 8 0#1 v) 7 = false := by simp [bit_cat]; decide
    simpa [State.Mirrors, hClear] using ⟨hCode, h5, hPin, hRst, hCrc, hRnd, hPll⟩
  | ccaReported _ v hv ih =>
    obtain ⟨hCode, h5, hRest⟩ := ih
    have hCode' := (field_eq_of_field_eq hv (show 5 ≤ 6 by omega)).trans hCode
    have h5' := (bit_eq_of_field_eq hv (show 5 < 6 by omega)).trans h5
    simpa [State.Mirrors, hCode', h5'] using hRest
  | rssiSampled _ ih =>
    simpa [State.Mirrors, State.sampleRssi, bit_cat, bit_field, field_cat_high, field_field] using ih
  | crcMarked _ ok ih =>
    obtain ⟨hCode, h5, hPin, hRst, -, hRnd, hRest⟩ := ih
    simpa [State.Mirrors, State.markCrc, bit_cat, field_cat_low, field_field, hRnd] using ⟨hCode, h5, hPin, hRst, hRest⟩
  | trxprStored _ v level hl h0 ih =>
    obtain ⟨hCode, h5, -, hRst, hRest⟩ := ih
    have hRst' : bit v 0 = false := h0.elim id (·.trans hRst)
    simpa [State.Mirrors, hl, hRst'] using ⟨hCode, h5, hRest⟩
  | reset n hu =>
    have hStatus := reg_of_reset hu (show fixedReset Addr.trxStatus = some 0x00#8 by decide)
    have hTrxpr := reg_of_reset hu (show fixedReset Addr.trxpr = some 0x00#8 by decide)
    have hRssi := reg_of_reset hu (show fixedReset Addr.phyRssi = some 0x00#8 by decide)
    have hCca := reg_of_reset hu (show fixedReset Addr.phyCcCca = some 0x2B#8 by decide)
    have hIrq := reg_of_reset hu (show fixedReset Addr.irqStatus = some 0x00#8 by decide)
    simp only [State.regView, Prod.mk.injEq] at hu
    obtain ⟨-, -, hState, hPin, hCrc⟩ := hu
    rw [State.Mirrors, hStatus, hTrxpr, hRssi, hCca, hIrq, hState, hPin, hCrc]
    decide

end Sys2Proof.Machine

section
open Sys2Proof.Machine

/-- Settles O54: every step is a chain of writes inside the address space (`RegisterMoves.memoryCanonical`). -/
theorem registerFileStaysCanonical : Obligations.RegisterFileStaysCanonical := by
  unfold Obligations.RegisterFileStaysCanonical
  exact fun _ _ hs h => (step_registerMoves h).memoryCanonical hs

/-- Settles O55: every step is a chain of updates (`step_registerMoves`), each of which keeps the mirrors and the legal codes. -/
theorem mirrorsHold : Obligations.MirrorsHold := by
  unfold Obligations.MirrorsHold
  exact fun _ _ h => ⟨(step_registerMoves h).mirrors, (step_registerMoves h).tracLegal⟩

end

/-! ### O56: the phases of the sequencing

R59 and the bounds of the cursors are kept together. `Rx.Fits` and `Tx.Fits` are what the statement says of each unit alone, and
the rest comes to six phases (`State.InPhase`): each rule leads from a phase to a phase, which is what the lemmas below say. -/

namespace Sys2Proof.Machine

/-! ### The phases -/

/-- The Receiver's cursor rests inside its frame, and that in the frame buffer. -/
structure Rx.Fits (r : Rx) : Prop where
  running : r.st ≠ .ended
  header : r.hdr.length = 13
  atLength : r.st = .sfdMatched2 → r.pos = 0
  inPacket : r.st = .inPacket → r.pos + 2 < r.len.toNat ∧ r.len.toNat ≤ 127
  atCrc : r.st = .crc1 ∨ r.st = .crc2 → 2 ≤ r.len.toNat ∧ r.len.toNat ≤ 127

/-- A running Transmitter's cursor rests inside its frame. -/
structure Tx.Fits (t : Tx) : Prop where
  running : t.active = true → t.st ≠ .ended
  inFrame : t.active = true →
    (t.st = .preamble → t.cnt < Config.preambleLen) ∧ (t.st = .payload → t.cnt < npay t.len) ∧ t.len.toNat ≤ 127

section
variable (s : State)

/-- Both units are stopped and no sequence runs. -/
structure State.Idle : Prop where
  rx : s.rx.active = false
  tx : s.tx.active = false
  aret : s.aretActive = false
  noWait : s.awaitingAck = false
  noAck : s.sendAck = false
  state : s.opState ≠ .busyTxAret

/-- A receive state, an ACK possibly due. -/
structure State.Listening : Prop where
  tx : s.tx.active = false
  aret : s.aretActive = false
  noWait : s.awaitingAck = false
  state : s.opState = .rxOn ∨ s.opState = .rxAackOn ∨ s.opState = .busyRx ∨ s.opState = .busyRxAack
  ackState : s.sendAck = true → s.opState = .rxAackOn ∨ s.opState = .busyRxAack

/-- An auto-ACK is being sent. -/
structure State.SendingAck : Prop where
  rx : s.rx.active = false
  tx : s.tx.active = true
  kind : s.tx.isAck = true
  aret : s.aretActive = false
  noWait : s.awaitingAck = false
  noAck : s.sendAck = false
  state : s.opState = .busyRxAack
  noTrigger : s.pending.ackTrigger = none

/-- A data frame is being sent, by an extended-mode sequence or without one. -/
structure State.SendingFrame : Prop where
  rx : s.rx.active = false
  tx : s.tx.active = true
  kind : s.tx.isAck = false
  noWait : s.awaitingAck = false
  noAck : s.sendAck = false
  state : s.opState = .busyTx ∧ s.aretActive = false ∨ s.opState = .busyTxAret ∧ s.aretActive = true

/-- An extended-mode sequence waits for its CCA. -/
structure State.Contending : Prop where
  rx : s.rx.active = false
  tx : s.tx.active = false
  aret : s.aretActive = true
  noWait : s.awaitingAck = false
  noAck : s.sendAck = false
  state : s.opState = .busyTxAret

/-- An extended-mode sequence waits for its ACK. -/
structure State.AwaitingAck : Prop where
  tx : s.tx.active = false
  aret : s.aretActive = true
  wait : s.awaitingAck = true
  noAck : s.sendAck = false
  state : s.opState = .busyTxAret

/-- The phases. A state whose Receiver is stopped may be in two of them. -/
inductive State.InPhase : Prop where
  | idle (h : s.Idle)
  | listening (h : s.Listening)
  | sendingAck (h : s.SendingAck)
  | sendingFrame (h : s.SendingFrame)
  | contending (h : s.Contending)
  | awaitingAck (h : s.AwaitingAck)

/-- The invariant: what `Sequenced` and `FramesInBounds` say together (`State.Sound.of_sequenced`, `State.Sound.sequenced`,
`State.Sound.framesInBounds`). -/
structure State.Sound : Prop where
  rx : s.rx.Fits
  tx : s.tx.Fits
  phase : s.InPhase

variable {s}

theorem State.Sequenced.inPhase (h : s.Sequenced) : s.InPhase := by
  obtain ⟨hRx, hTx, hWait, hAret, hSend, hTrigger, -, -⟩ := h
  have hAretOff (hS : s.opState ≠ .busyTxAret) : s.aretActive = false := by simpa using mt hAret.mp hS
  have hWaitOff (hS : s.opState ≠ .busyTxAret) : s.awaitingAck = false := by
    simpa using fun hw => hS (hAret.mp (hWait hw).1)
  cases ht : s.tx.active with
  | true =>
    have hrx : s.rx.active = false := by simpa [ht] using hRx
    have hw : s.awaitingAck = false := by simpa [ht] using hWait
    have ha : s.sendAck = false := by simpa [ht] using hSend
    obtain ⟨hk, hS⟩ | ⟨hk, hS | hS⟩ := hTx ht
    · exact .sendingAck ⟨hrx, ht, hk, hAretOff (by simp [hS]), hw, ha, hS, hTrigger ht hk⟩
    · exact .sendingFrame ⟨hrx, ht, hk, hw, ha, .inl ⟨hS, hAretOff (by simp [hS])⟩⟩
    · exact .sendingFrame ⟨hrx, ht, hk, hw, ha, .inr ⟨hS, hAret.mpr hS⟩⟩
  | false =>
    by_cases hB : s.opState = .busyTxAret
    · have ha : s.sendAck = false := by simpa [hB] using hSend
      cases hw : s.awaitingAck with
      | true => exact .awaitingAck ⟨ht, hAret.mpr hB, hw, ha, hB⟩
      | false => exact .contending ⟨by simpa [hB, hw] using hRx, ht, hAret.mpr hB, hw, ha, hB⟩
    · by_cases hL : s.opState = .rxOn ∨ s.opState = .rxAackOn ∨ s.opState = .busyRx ∨ s.opState = .busyRxAack
      · exact .listening ⟨ht, hAretOff hB, hWaitOff hB, hL, fun h => (hSend h).1⟩
      · have hrx : s.rx.active = false := by
          by_contra hr
          obtain ⟨-, h⟩ := hRx (by simpa using hr)
          simp_all
        have ha : s.sendAck = false := by
          by_contra hs
          obtain ⟨h, -⟩ := hSend (by simpa using hs)
          simp_all
        exact .idle ⟨hrx, ht, hAretOff hB, hWaitOff hB, ha, hB⟩

theorem State.Sound.of_sequenced (h : s.Sequenced) (hf : s.FramesInBounds) : s.Sound := by
  obtain ⟨-, -, -, -, -, -, hRxRuns, hTxRuns⟩ := id h
  obtain ⟨hHdr, hLength, hPacket, hCrc, hTx⟩ := hf
  exact ⟨⟨hRxRuns, hHdr, hLength, hPacket, hCrc⟩, ⟨hTxRuns, hTx⟩, h.inPhase⟩

theorem State.Sound.framesInBounds (h : s.Sound) : s.FramesInBounds := by
  obtain ⟨hr, ht, -⟩ := h
  exact ⟨hr.header, hr.atLength, hr.inPacket, hr.atCrc, ht.inFrame⟩

theorem State.Sound.sequenced (h : s.Sound) : s.Sequenced := by
  obtain ⟨hr, ht, hp⟩ := h
  have hRxRuns := hr.running
  have hTxRuns := ht.running
  cases hp with
  | idle h => obtain ⟨hrx, htx, ha, hw, hs, hS⟩ := h; simp [*, State.Sequenced]
  | listening h => obtain ⟨htx, ha, hw, hS, hs⟩ := h; rcases hS with hS | hS | hS | hS <;> simp_all [State.Sequenced]
  | sendingAck h => obtain ⟨hrx, htx, hk, ha, hw, hs, hS, hn⟩ := h; simp_all [State.Sequenced]
  | sendingFrame h => obtain ⟨hrx, htx, hk, hw, hs, ⟨hS, ha⟩ | ⟨hS, ha⟩⟩ := h <;> simp_all [State.Sequenced]
  | contending h => obtain ⟨hrx, htx, ha, hw, hs, hS⟩ := h; simp_all [State.Sequenced]
  | awaitingAck h => obtain ⟨htx, ha, hw, hs, hS⟩ := h; simp_all [State.Sequenced]

end

/-! ### The units' cursors -/

theorem Rx.Fits.of_scan {r r' : Rx} (h : r.Fits) (hst : r'.st = .sfdScan) (hh : r'.hdr.length = r.hdr.length) : r'.Fits := by
  constructor <;> simp [hst, hh, h.header]

theorem Rx.Fits.of_same {r r' : Rx} (h : r.Fits) (hst : r'.st = r.st) (hpos : r'.pos = r.pos) (hlen : r'.len = r.len)
    (hh : r'.hdr.length = r.hdr.length) : r'.Fits := by
  obtain ⟨hRuns, hHdr, hLength, hPacket, hCrc⟩ := h
  constructor <;> simpa [hst, hpos, hlen, hh]

theorem Rx.Fits.stopRx (s : State) (h : s.rx.Fits) : s.stopRx.rx.Fits := by
  rw [stopRx_rx]
  cases ha : s.rx.active with
  | true => exact h.of_scan rfl rfl
  | false => exact h.of_same rfl rfl rfl rfl

theorem Rx.Fits.startRx (s : State) (h : s.rx.Fits) : s.startRx.rx.Fits := by
  rw [startRx_rx]
  cases ha : s.rx.active with
  | true => exact h.of_same rfl rfl rfl rfl
  | false => exact h.of_scan rfl rfl

theorem Tx.Fits.of_stopped {t : Tx} (h : t.active = false) : t.Fits := by
  constructor <;> simp [h]

theorem Tx.Fits.startTx {s : State} (k : TxKind) (h : s.tx.active = false) : (s.startTx k).tx.Fits := by
  rw [startTx_tx_stopped s k h]
  constructor <;> simp [Config.preambleLen]

/-! ### What a step keeps -/

/-- What the phases read of a state, `sendAck` and the pending trigger apart. -/
def State.phaseView (s : State) : OpState × Bool × Bool × Bool × Bool × Bool :=
  (s.opState, s.tx.active, s.tx.isAck, s.rx.active, s.aretActive, s.awaitingAck)

/-- The conclusion of O56 about one step: the phases and the bounds hold after it, and R59's clause on `sendAck` is kept but by
the end of a frame received in the turnaround. -/
structure Keeps (s t : State) : Prop where
  sound : t.Sound
  sendAck : s.SendAckBusy → t.SendAckBusy ∨ s.EndsTurnaroundFrame t

section
variable {s t : State}

theorem State.Idle.of_view (h : s.Idle) (hv : t.phaseView = s.phaseView := by rfl)
    (ha : t.sendAck = true → s.sendAck = true := by exact id) : t.Idle := by
  obtain ⟨hrx, htx, hAret, hw, hs, hS⟩ := h
  simp only [State.phaseView, Prod.mk.injEq] at hv
  constructor <;> simp_all

theorem State.Listening.of_view (h : s.Listening) (hv : t.phaseView = s.phaseView := by rfl)
    (ha : t.sendAck = true → s.sendAck = true := by exact id) : t.Listening := by
  obtain ⟨htx, hAret, hw, hS, hs⟩ := h
  simp only [State.phaseView, Prod.mk.injEq] at hv
  obtain ⟨hS', htx', -, -, hAret', hw'⟩ := hv
  exact ⟨htx'.trans htx, hAret'.trans hAret, hw'.trans hw, hS' ▸ hS, fun h => hS' ▸ hs (ha h)⟩

/-- The phase stays where `sendAck` and the trigger are at most cleared and nothing else it reads changes. -/
theorem State.InPhase.of_view (h : s.InPhase) (hv : t.phaseView = s.phaseView)
    (ha : t.sendAck = true → s.sendAck = true) (hn : s.pending.ackTrigger = none → t.pending.ackTrigger = none) :
    t.InPhase := by
  cases h with
  | idle h => exact .idle (h.of_view hv ha)
  | listening h => exact .listening (h.of_view hv ha)
  | sendingAck h =>
    obtain ⟨hrx, htx, hk, hAret, hw, hs, hS, hNone⟩ := h
    exact .sendingAck (by constructor <;> simp_all [State.phaseView])
  | sendingFrame h =>
    obtain ⟨hrx, htx, hk, hw, hs, hS⟩ := h
    exact .sendingFrame (by constructor <;> simp_all [State.phaseView])
  | contending h =>
    obtain ⟨hrx, htx, hAret, hw, hs, hS⟩ := h
    exact .contending (by constructor <;> simp_all [State.phaseView])
  | awaitingAck h =>
    obtain ⟨htx, hAret, hw, hs, hS⟩ := h
    exact .awaitingAck (by constructor <;> simp_all [State.phaseView])

end

namespace Keeps

section
variable {s t u : State}

theorem of_view (hs : s.Sound) (hr : t.rx.Fits) (ht : t.tx.Fits) (hv : t.phaseView = s.phaseView := by rfl)
    (ha : t.sendAck = true → s.sendAck = true := by exact id)
    (hn : s.pending.ackTrigger = none → t.pending.ackTrigger = none := by exact id) : Keeps s t := by
  have hS : t.opState = s.opState := congrArg Prod.fst hv
  exact ⟨⟨hr, ht, hs.phase.of_view hv ha hn⟩, fun h => .inl fun hSend => hS.trans (h (ha hSend))⟩

/-- Neither a unit nor a flag is touched but, maybe, the trigger cancelled. -/
theorem of_same (hs : s.Sound) (hv : t.phaseView = s.phaseView := by rfl) (hr : t.rx = s.rx := by rfl)
    (ht : t.tx = s.tx := by rfl) (ha : t.sendAck = s.sendAck := by rfl)
    (hn : s.pending.ackTrigger = none → t.pending.ackTrigger = none := by exact id) : Keeps s t :=
  of_view hs (hr ▸ hs.rx) (ht ▸ hs.tx) hv (ha ▸ id) hn

/-- A step that goes on where `u` stands. -/
theorem before (h : Keeps u t) (hv : u.phaseView = s.phaseView := by rfl) (hr : u.rx = s.rx := by rfl)
    (ha : u.sendAck = s.sendAck := by rfl) : Keeps s t := by
  have hS : u.opState = s.opState := congrArg Prod.fst hv
  refine ⟨h.sound, fun hBusy => ?_⟩
  have hKept := h.sendAck (by rw [State.SendAckBusy, hS, ha]; exact hBusy)
  rwa [State.EndsTurnaroundFrame, hS, ha, hr] at hKept

theorem of_noAck (h : t.Sound) (ha : t.sendAck = false) : Keeps s t := ⟨h, fun _ => .inl (by simp [State.SendAckBusy, ha])⟩

theorem idle (hr : t.rx.Fits) (h : t.Idle) : Keeps s t := of_noAck ⟨hr, .of_stopped h.tx, .idle h⟩ h.noAck

theorem listening (hr : t.rx.Fits) (h : t.Listening) (ha : t.sendAck = false) : Keeps s t :=
  of_noAck ⟨hr, .of_stopped h.tx, .listening h⟩ ha

theorem sendingAck (hr : t.rx.Fits) (ht : t.tx.Fits) (h : t.SendingAck) : Keeps s t := of_noAck ⟨hr, ht, .sendingAck h⟩ h.noAck

theorem sendingFrame (hr : t.rx.Fits) (ht : t.tx.Fits) (h : t.SendingFrame) : Keeps s t :=
  of_noAck ⟨hr, ht, .sendingFrame h⟩ h.noAck

theorem contending (hr : t.rx.Fits) (h : t.Contending) : Keeps s t := of_noAck ⟨hr, .of_stopped h.tx, .contending h⟩ h.noAck

theorem awaitingAck (hr : t.rx.Fits) (h : t.AwaitingAck) : Keeps s t :=
  of_noAck ⟨hr, .of_stopped h.tx, .awaitingAck h⟩ h.noAck

end

end Keeps

/-- An update that no phase reads. -/
theorem State.Sound.of_same {s t : State} (hs : s.Sound) (hv : t.phaseView = s.phaseView := by rfl) (hr : t.rx = s.rx := by rfl)
    (ht : t.tx = s.tx := by rfl) (ha : t.sendAck = s.sendAck := by rfl)
    (hn : s.pending.ackTrigger = none → t.pending.ackTrigger = none := by exact id) : t.Sound :=
  (Keeps.of_same hs hv hr ht ha hn).sound

/-! ### Which phase a state is in -/

section
variable {s : State}

/-- The states in which nothing runs. -/
def quietStates : List OpState := [.off, .sleep, .trxOff, .pllOn, .txAretOn, .transition]

theorem State.Sound.idle (hs : s.Sound) (h : s.opState ∈ quietStates) : s.Idle := by
  cases hs.phase with
  | idle h => exact h
  | listening hp => obtain hS | hS | hS | hS := hp.state <;> rw [hS] at h <;> simp [quietStates] at h
  | sendingFrame hp => obtain ⟨hS, -⟩ | ⟨hS, -⟩ := hp.state <;> rw [hS] at h <;> simp [quietStates] at h
  | sendingAck hp | contending hp | awaitingAck hp => rw [hp.state] at h; simp [quietStates] at h

theorem State.Sound.receiving (hs : s.Sound) (h : s.rx.active = true) : s.Listening ∨ s.AwaitingAck := by
  cases hs.phase with
  | listening hp => exact .inl hp
  | awaitingAck hp => exact .inr hp
  | idle hp | sendingAck hp | sendingFrame hp | contending hp => simp [hp.rx] at h

theorem State.Sound.sending (hs : s.Sound) (h : s.tx.active = true) : s.SendingAck ∨ s.SendingFrame := by
  cases hs.phase with
  | sendingAck hp => exact .inl hp
  | sendingFrame hp => exact .inr hp
  | idle hp | listening hp | contending hp | awaitingAck hp => simp [hp.tx] at h

/-! ### Starting to transmit, CSMA and CCA -/

theorem State.Idle.entered (h : s.Idle) (x : OpState) (hx : x ≠ .busyTxAret) : (s.setState x).Idle :=
  ⟨h.rx, h.tx, h.aret, h.noWait, h.noAck, hx⟩

theorem State.Idle.startFrame (h : s.Idle) : ((s.setState .busyTx).startTx .data).SendingFrame := by
  obtain ⟨hrx, htx, ha, hw, hs, -⟩ := h
  constructor <;> simp [startTx_tx_stopped, *]

theorem State.Contending.startFrame (h : s.Contending) : (s.startTx .data).SendingFrame := by
  obtain ⟨hrx, htx, ha, hw, hs, hS⟩ := h
  constructor <;> simp [startTx_tx_stopped, *]

theorem csmaStartOrTx_keeps {s₀ : State} (hr : s.rx.Fits) (h : s.Contending) : Keeps s₀ s.csmaStartOrTx := by
  unfold State.csmaStartOrTx
  split
  · exact .sendingFrame (by simpa using hr) (.startTx _ h.tx) h.startFrame
  · exact .contending hr ⟨h.rx, h.tx, h.aret, h.noWait, h.noAck, h.state⟩

theorem beginAret_keeps {s₀ : State} (hr : s.rx.Fits) (h : s.Idle) : Keeps s₀ s.beginAret := by
  unfold State.beginAret
  exact csmaStartOrTx_keeps hr ⟨h.rx, h.tx, rfl, rfl, h.noAck, rfl⟩

theorem aretFinish_keeps {s₀ : State} (hr : s.rx.Fits) (htx : s.tx.active = false) (hrx : s.rx.active = false)
    (ha : s.sendAck = false) (c : BitVec 3) : Keeps s₀ (s.aretFinish c) := by
  have h : (s.aretFinish c).rx.Fits := by simpa [State.aretFinish, hrx, htx] using hr
  exact .idle h (by constructor <;> simp [State.aretFinish, hrx, htx, ha])

/-! ### Events but ACK_TRIGGER -/

theorem aretCca_keeps (hs : s.Sound) (h : s.Contending) : Keeps s s.aretCca := by
  have hr : s.popEnergy.rx.Fits := hs.rx
  have hDrawn : s.popEnergy.Contending := ⟨h.rx, h.tx, h.aret, h.noWait, h.noAck, h.state⟩
  unfold State.aretCca
  dsimp only
  split_ifs
  · refine .contending (by simpa using hs.rx) ?_
    obtain ⟨hrx, htx, ha, hw, hs, hS⟩ := h
    constructor <;> simpa
  · exact aretFinish_keeps hr hDrawn.tx hDrawn.rx hDrawn.noAck _
  · exact .sendingFrame (by simpa using hr) (.startTx _ h.tx) hDrawn.startFrame

theorem onCcaDelay_keeps (hs : s.Sound) : Keeps s s.onCcaDelay := by
  unfold State.onCcaDelay
  split_ifs with h
  · refine aretCca_keeps hs ?_
    simp only [Bool.and_eq_true, Bool.not_eq_true'] at h
    obtain ⟨⟨ha, hw⟩, ht⟩ := h
    cases hs.phase with
    | contending hp => exact hp
    | idle hp | listening hp | sendingAck hp => simp [hp.aret] at ha
    | sendingFrame hp => simp [hp.tx] at ht
    | awaitingAck hp => simp [hp.wait] at hw
  · exact .of_same hs

theorem onWakeup_keeps (hs : s.Sound) : Keeps s s.onWakeup := by
  unfold State.onWakeup
  split_ifs with h
  · have hi := (hs.idle (by simp [quietStates, h])).entered .trxOff (by decide)
    exact .idle hs.rx hi.of_view
  · exact .of_same hs

theorem onAckTimeout_keeps (hs : s.Sound) : Keeps s s.onAckTimeout := by
  unfold State.onAckTimeout
  split_ifs with h
  · have hp : s.AwaitingAck := by
      cases hs.phase with
      | awaitingAck hp => exact hp
      | idle hp | listening hp | sendingAck hp | sendingFrame hp | contending hp => simp [hp.noWait] at h
    have hr := Rx.Fits.stopRx { s with awaitingAck := false } hs.rx
    dsimp only
    split_ifs
    · refine csmaStartOrTx_keeps hr ?_
      obtain ⟨htx, ha, hw, hs, hS⟩ := hp
      constructor <;> simp [*]
    · exact aretFinish_keeps hr (by simpa using hp.tx) (by simp) (by simpa using hp.noAck) _
  · exact .of_same hs

/-! ### Commands -/

theorem unitsStopped_keeps (hs : s.Sound) {x : OpState} (hx : x ≠ .busyTxAret) :
    Keeps s (s.abortSequence.stopTx.stopRx.setState x) := by
  refine .idle (.stopRx s.abortSequence.stopTx (by simpa using hs.rx)) ?_
  constructor <;> simp [hx]

theorem listening_keeps (hs : s.Sound) {x : OpState} (hx : x = .rxOn ∨ x = .rxAackOn) :
    Keeps s (s.abortSequence.stopTx.startRx.setState x) := by
  refine .listening (.startRx s.abortSequence.stopTx (by simpa using hs.rx)) ?_ (by simp)
  obtain rfl | rfl := hx <;> constructor <;> simp

theorem startFrame_keeps (hs : s.Sound) (h : s.Idle) : Keeps s ((s.setState .busyTx).startTx .data) :=
  .sendingFrame (by simpa using hs.rx) (.startTx _ h.tx) h.startFrame

theorem cmdTxStart_keeps (hs : s.Sound) : Keeps s s.cmdTxStart := by
  unfold State.cmdTxStart
  split_ifs with hPll hAret
  · exact startFrame_keeps hs (hs.idle (by simp [quietStates, hPll]))
  · exact beginAret_keeps hs.rx (hs.idle (by simp [quietStates, hAret]))
  · exact .of_same hs

theorem runCommand_keeps (hs : s.Sound) (c : Command) : Keeps s (s.runCommand c) := by
  cases c with
  | nop | invalid | manualCca => exact .of_same hs
  | txStart => exact cmdTxStart_keeps hs
  | forceTrxOff | forcePllOn | trxOff | pllOn | txAretOn => exact unitsStopped_keeps hs (by decide)
  | rxOn | rxAackOn => exact listening_keeps hs (by decide)

theorem commandInOff_keeps (hs : s.Sound) (h : s.opState = .off) (c : Command) : Keeps s (s.commandInOff c) := by
  cases c with
  | trxOff | forceTrxOff => exact .idle hs.rx ((hs.idle (by simp [quietStates, h])).entered _ (by decide))
  | nop | txStart | forcePllOn | rxOn | pllOn | rxAackOn | txAretOn | invalid | manualCca => exact .of_same hs

theorem applyCommand_keeps (hs : s.Sound) (c : Command) : Keeps s (s.applyCommand c) := by
  unfold State.applyCommand
  split_ifs with hGate hOff
  · exact .of_same hs
  · exact commandInOff_keeps hs hOff c
  · exact runCommand_keeps hs c

theorem State.Sound.setReg (hs : s.Sound) (a : Nat) (v : Byte) : (s.setReg a v).Sound := hs.of_same

theorem writeTrxState_keeps (hs : s.Sound) (code : BitVec 5) : Keeps s (s.writeTrxState code) :=
  (applyCommand_keeps (hs.setReg _ _) _).before

theorem writePhyCcCca_keeps (hs : s.Sound) (request : Bool) (mode : BitVec 2) (channel : BitVec 5) :
    Keeps s (s.writePhyCcCca request mode channel) := by
  unfold State.writePhyCcCca
  dsimp only
  split_ifs
  · exact (applyCommand_keeps (hs.setReg _ _) _).before
  · exact .of_same hs

/-! ### The control line -/

theorem pinTransition_keeps (hs : s.Sound) (raised : Bool) : Keeps s (s.pinTransition raised) := by
  unfold State.pinTransition State.risingEdge State.fallingEdge
  split_ifs with hRaised hTrxOff hPll hAret hSleep
  · have hi := (hs.idle (by simp [quietStates, hTrxOff])).entered .sleep (by decide)
    exact .idle hs.rx hi.of_view
  · exact startFrame_keeps hs (hs.idle (by simp [quietStates, hPll]))
  · exact beginAret_keeps hs.rx (hs.idle (by simp [quietStates, hAret]))
  · exact .of_same hs
  · have hi := (hs.idle (by simp [quietStates, hSleep])).entered .transition (by decide)
    exact .idle hs.rx hi.of_view
  · exact .of_same hs

theorem State.Sound.setTrxpr (hs : s.Sound) (v : Byte) (level : Bool) :
    State.Sound { s.setReg Addr.trxpr v with pinLevel := level } := hs.of_same

theorem pinInput_keeps (hs : s.Sound) (raised : Bool) : Keeps s (s.pinInput raised) := by
  unfold State.pinInput
  dsimp only
  split_ifs
  · exact .of_same hs
  · exact (pinTransition_keeps (hs.setTrxpr _ _) _).before

theorem writeTrxpr_keeps (hs : s.Sound) (upper : BitVec 6) (slptr : Bool) : Keeps s (s.writeTrxpr upper slptr) := by
  unfold State.writeTrxpr
  dsimp only
  split_ifs
  · exact .of_same hs
  · exact (pinTransition_keeps (hs.setTrxpr _ _) _).before

/-! ### Pulls -/

theorem masked_toNat_le (b : Byte) : (b &&& 0x7F#8).toNat ≤ 127 := by
  rw [BitVec.toNat_and]
  exact Nat.and_le_right

theorem lengthToSend_le (s : State) : s.lengthToSend.toNat ≤ 127 := by
  unfold State.lengthToSend
  split_ifs
  · decide
  · exact masked_toNat_le _

theorem txEndAck_keeps {s₀ : State} (hr : s.rx.Fits) (h : s.SendingAck) : Keeps s₀ s.txEndAck := by
  obtain ⟨hrx, htx, hk, hAret, hw, ha, hS, -⟩ := h
  refine .listening (.startRx s.stopTx (by simpa using hr)) ?_ (by simpa [State.txEndAck] using ha)
  constructor <;> simp [State.txEndAck, *]

theorem txEndAwait_keeps {s₀ : State} (hr : s.rx.Fits) (h : s.SendingFrame) (hS : s.opState = .busyTxAret) :
    Keeps s₀ s.txEndAwait := by
  obtain ⟨hrx, htx, hk, hw, ha, hState⟩ := h
  have hAret : s.aretActive = true := by simpa [hS] using hState
  refine .awaitingAck (.startRx _ (hr.of_same (by simp) (by simp) (by simp) (by simp))) ?_
  constructor <;> simp [State.txEndAwait, *]

theorem txEndDone_keeps {s₀ : State} (hr : s.rx.Fits) (h : s.SendingFrame) : Keeps s₀ s.txEndDone := by
  obtain ⟨hrx, htx, hk, hw, ha, hState⟩ := h
  unfold State.txEndDone
  dsimp only
  split_ifs with hS
  · refine .idle (by simpa using hr) ?_
    constructor <;> simp [*]
  · refine .idle (by simpa using hr) ?_
    have hAret : s.aretActive = false := by simp_all
    constructor <;> simp [*]

theorem txEnd_keeps {s₀ : State} (hr : s.rx.Fits) (h : s.SendingAck ∨ s.SendingFrame) : Keeps s₀ s.txEnd := by
  unfold State.txEnd
  obtain h | h := h
  · rw [if_pos h.kind]
    exact txEndAck_keeps hr h
  · rw [if_neg (by simp [h.kind])]
    split_ifs with hReq
    · exact txEndAwait_keeps hr h (by simp_all)
    · exact txEndDone_keeps hr h

/-! A pull moves the cursor inside the frame (42_transmitter.md R203 to R206). -/

theorem Tx.Fits.pullPreamble (hLen : s.tx.len.toNat ≤ 127) (hCnt : s.tx.cnt < Config.preambleLen) :
    s.pullPreamble.tx.Fits := by
  by_cases hLast : s.tx.cnt + 1 = Config.preambleLen
  · constructor <;> simp [State.pullPreamble, hLast, hLen]
  · have hNext : s.tx.cnt + 1 < Config.preambleLen := by omega
    constructor <;> simp [State.pullPreamble, hLast, hLen, hNext]

theorem Tx.Fits.pullLength : s.pullLength.tx.Fits := by
  by_cases hPay : 0 < npay s.lengthToSend
  · constructor <;> simp [State.pullLength, hPay, lengthToSend_le]
  · constructor <;> simp [State.pullLength, hPay, lengthToSend_le]

theorem Tx.Fits.pullPayload (hLen : s.tx.len.toNat ≤ 127) (hCnt : s.tx.cnt < npay s.tx.len) : s.pullPayload.tx.Fits := by
  by_cases hLast : s.tx.cnt + 1 = npay s.tx.len
  · constructor <;> simp [State.pullPayload, hLast, hLen]
  · have hNext : s.tx.cnt + 1 < npay s.tx.len := by omega
    constructor <;> simp [State.pullPayload, hLast, hLen, hNext]

/-- A cursor with no count of its own. -/
theorem Tx.Fits.of_cursor {t : Tx} (hst : t.st = .length ∨ t.st = .crcByte2) (hLen : t.len.toNat ≤ 127) : t.Fits := by
  obtain hst | hst := hst <;> constructor <;> simp [hst, hLen]

theorem pullActive_keeps (hs : s.Sound) (ha : s.tx.active = true) : Keeps s s.pullActive := by
  obtain ⟨hPreamble, hPayload, hLen⟩ := hs.tx.inFrame ha
  unfold State.pullActive
  split
  next hst => exact .of_view hs hs.rx (.pullPreamble hLen (hPreamble hst))
  next => exact .of_view hs hs.rx (.of_cursor (.inl rfl) hLen)
  next => exact .of_view hs hs.rx .pullLength
  next hst => exact .of_view hs hs.rx (.pullPayload hLen (hPayload hst))
  next => exact .of_view hs hs.rx (.of_cursor (.inr rfl) hLen)
  next =>
    refine txEnd_keeps hs.rx ?_
    obtain h | h := hs.sending ha
    · exact .inl ⟨h.rx, h.tx, h.kind, h.aret, h.noWait, h.noAck, h.state, h.noTrigger⟩
    · exact .inr ⟨h.rx, h.tx, h.kind, h.noWait, h.noAck, h.state⟩
  next hst => exact absurd hst (hs.tx.running ha)

/-! ### Resets -/

theorem Rx.Fits.reset : Rx.reset.Fits := by constructor <;> decide

theorem powerOnReset_keeps : Keeps s s.powerOnReset :=
  .idle .reset ⟨rfl, rfl, rfl, rfl, rfl, show OpState.off ≠ .busyTxAret by decide⟩

theorem explicitReset_keeps : Keeps s s.explicitReset :=
  .idle .reset ⟨rfl, rfl, rfl, rfl, rfl, show OpState.trxOff ≠ .busyTxAret by decide⟩

end

section
variable {s u : State}

/-! ### Deliveries -/

theorem Rx.Fits.setRxCursor_scan (h : s.rx.Fits) : (s.setRxCursor .sfdScan).rx.Fits := h.of_scan rfl rfl

/-- `u` comes from `s`, in which a frame is in progress, when the cursor is back at the scan: what every end of a frame makes first
(43_receiver.md R243, R247, R251). -/
structure FrameEnds (s u : State) : Prop where
  active : s.rx.active = true
  inProgress : s.rx.st.inProgress = true
  rx : u.rx = { s.rx with st := .sfdScan }
  tx : u.tx = s.tx := by rfl
  view : u.phaseView = s.phaseView := by rfl
  sendAck : u.sendAck = s.sendAck := by rfl
  trigger : u.pending.ackTrigger = s.pending.ackTrigger := by rfl

theorem FrameEnds.fits (h : FrameEnds s u) (hs : s.Sound) : u.rx.Fits := hs.rx.of_scan (by rw [h.rx]) (by rw [h.rx])

theorem State.Sound.listening (hs : s.Sound) (ha : s.rx.active = true) (hw : s.awaitingAck = false) : s.Listening := by
  obtain hl | hp := hs.receiving ha
  · exact hl
  · simp [hp.wait] at hw

theorem FrameEnds.wait_eq (h : FrameEnds s u) : u.awaitingAck = s.awaitingAck := by
  have hView := h.view
  simp only [State.phaseView, Prod.mk.injEq] at hView
  obtain ⟨-, -, -, -, -, hWait⟩ := hView
  exact hWait

/-- `listenState` stays among the states of the phase (43_receiver.md R241). -/
theorem State.Listening.listen (h : s.Listening) : s.returnToListen.Listening := by
  obtain ⟨htx, ha, hw, hS, hs⟩ := h
  refine ⟨htx, ha, hw, ?_, fun h => ?_⟩
  · obtain hS | hS | hS | hS := hS <;> simp [hS, OpState.listen]
  · obtain hS | hS := hs h <;> simp [hS, OpState.listen]

/-- The return to the listen state keeps R59's clause unless an ACK is due, and then it ends a frame of the turnaround (log 12). -/
theorem returnToListen_keeps (hs : s.Sound) (h : FrameEnds s u) (hw : u.awaitingAck = false) : Keeps s u.returnToListen := by
  have hl := (hs.listening h.active (h.wait_eq ▸ hw)).of_view h.view (fun ha => h.sendAck ▸ ha)
  have hS : u.opState = s.opState := congrArg Prod.fst h.view
  refine ⟨⟨h.fits hs, .of_stopped hl.tx, .listening hl.listen⟩, fun hBusy => ?_⟩
  cases ha : s.sendAck with
  | false => exact .inl (by simp [State.SendAckBusy, h.sendAck, ha])
  | true => exact .inr ⟨ha, hBusy ha, h.active, h.inProgress, by simp [hS, hBusy ha, OpState.listen], by simp [h.rx]⟩

theorem lockLost_keeps (hs : s.Sound) (ha : s.rx.active = true) : Keeps s s.lockLost := by
  have hr := hs.rx.setRxCursor_scan
  unfold State.lockLost
  dsimp only
  split_ifs with hw hp hp
  · exact .of_view hs hr hs.tx
  · exact .of_view hs hr hs.tx
  · exact returnToListen_keeps hs ⟨ha, hp, rfl, rfl, rfl, rfl, rfl⟩ (by simpa using hw)
  · exact .of_view hs hr hs.tx

/-- So does `busyState`. -/
theorem State.Listening.busy (h : s.Listening) : (s.setState s.opState.busy).Listening := by
  obtain ⟨htx, ha, hw, hS, hs⟩ := h
  refine ⟨htx, ha, hw, ?_, fun h => ?_⟩
  · obtain hS | hS | hS | hS := hS <;> simp [hS, OpState.busy]
  · obtain hS | hS := hs h <;> simp [hS, OpState.busy]

theorem sfdMatch_keeps (hs : s.Sound) (ha : s.rx.active = true) : Keeps s s.sfdMatch := by
  unfold State.sfdMatch
  extract_lets _ begun cleared
  have hr : cleared.rx.Fits := by constructor <;> simp [cleared, begun]
  split_ifs with hQuiet hw
  · exact .of_view hs hs.rx.setRxCursor_scan hs.tx
  · exact .of_view hs hr hs.tx
  · have hl := (hs.listening ha (eq_false_of_ne_true hw)).busy
    refine ⟨⟨hr, hs.tx, .listening hl.of_view⟩, fun hBusy => .inl fun hSend => ?_⟩
    show s.opState.busy = .busyRxAack
    rw [hBusy hSend]
    rfl

theorem sync_keeps (hs : s.Sound) (ha : s.rx.active = true) (b : Byte) : Keeps s (s.sync b) := by
  have hScan := hs.rx.setRxCursor_scan
  have hMatched : (s.setRxCursor .sfdMatched1).rx.Fits := by
    constructor <;> simp [hs.rx.header]
  unfold State.sync
  split_ifs
  · exact .of_view hs hMatched hs.tx
  · exact .of_same hs
  · exact sfdMatch_keeps hs ha
  · exact .of_same hs
  · exact .of_view hs hScan hs.tx

theorem Rx.Fits.lengthTaken {r : Rx} (h : r.Fits) (hst : r.st = .sfdMatched2) {len : Byte} (hMin : 2 ≤ len.toNat)
    (hMax : len.toNat ≤ 127) : Rx.Fits { r with len := len, st := if len = 2#8 then .crc1 else .inPacket } := by
  have hPos := h.atLength hst
  by_cases hTwo : len = 2#8
  · constructor <;> simp [hTwo, h.header]
  · have hLong : 2 < len.toNat := by
      have hNe : len.toNat ≠ 2 := fun hEq => hTwo (BitVec.eq_of_toNat_eq hEq)
      omega
    constructor <;> simp [hTwo, h.header, hPos, hLong, hMax]

theorem lengthByte_keeps (hs : s.Sound) (ha : s.rx.active = true) (hst : s.rx.st = .sfdMatched2) (b : Byte) :
    Keeps s (s.lengthByte b) := by
  unfold State.lengthByte
  extract_lets len scan _ taken
  split_ifs with hShort hw hw
  · exact .of_view hs hs.rx.setRxCursor_scan hs.tx
  · exact returnToListen_keeps hs ⟨ha, by rw [hst]; rfl, rfl, rfl, rfl, rfl, rfl⟩ (eq_false_of_ne_true hw)
  all_goals
    have hr : taken.rx.Fits := hs.rx.lengthTaken hst (by omega) (masked_toNat_le b)
    exact .of_view hs hr hs.tx

/-! ### Payload -/

/-- What the address matcher and the acceptance of an ACK may change of a frame in progress. -/
structure FrameGoesOn (s t : State) : Prop where
  view : t.phaseView = s.phaseView := by rfl
  sendAck : t.sendAck = true → s.sendAck = true := by exact id
  trigger : t.pending.ackTrigger = s.pending.ackTrigger := by rfl
  tx : t.tx = s.tx := by rfl
  st : t.rx.st = s.rx.st ∨ t.rx.st = .sfdScan := by exact .inl rfl
  pos : t.rx.pos = s.rx.pos := by rfl
  len : t.rx.len = s.rx.len := by rfl
  hdr : t.rx.hdr.length = s.rx.hdr.length := by rfl

theorem FrameGoesOn.ite {t t' : State} {c : Prop} [Decidable c] (ht : FrameGoesOn s t) (ht' : FrameGoesOn s t') :
    FrameGoesOn s (if c then t else t') := by
  split
  · exact ht
  · exact ht'

theorem addressMatch_goesOn (b : Byte) (p : Nat) : FrameGoesOn s (s.addressMatch b p) := by
  have hSame : FrameGoesOn s s := {}
  have hRejected : FrameGoesOn s s.rejectFrame := {}
  have hPosted : FrameGoesOn s (s.post .ami) := {}
  have hType : FrameGoesOn s (s.frameTypeCheck b) := by
    unfold State.frameTypeCheck
    split
    · split
      · exact hRejected
      · exact {}
    · exact hSame
  have hMode : FrameGoesOn s (s.dstModeRecord b) := {}
  have hSeq : FrameGoesOn s (s.seqTrack b) := { sendAck := by simp [State.seqTrack] }
  have hPan : FrameGoesOn s s.panCheck := .ite (.ite hRejected hSame) hSame
  have hShort : FrameGoesOn s s.shortCheck := .ite (.ite hPosted hRejected) hSame
  have hExt : FrameGoesOn s s.extCheck := .ite (.ite hPosted hRejected) hSame
  exact .ite hSame (.ite hType (.ite hMode (.ite hSeq (.ite hPan (.ite hShort (.ite hExt hSame))))))

theorem FrameGoesOn.trans {t : State} (h : FrameGoesOn s t) (h' : FrameGoesOn t u) : FrameGoesOn s u where
  view := h'.view.trans h.view
  sendAck := h.sendAck ∘ h'.sendAck
  trigger := h'.trigger.trans h.trigger
  tx := h'.tx.trans h.tx
  st := h'.st.elim (fun hSame => hSame ▸ h.st) .inr
  pos := h'.pos.trans h.pos
  len := h'.len.trans h.len
  hdr := h'.hdr.trans h.hdr

theorem setHdr_goesOn (b : Byte) (p : Nat) : FrameGoesOn s { s with rx := s.rx.setHdr p b } where
  hdr := by simp [Rx.setHdr]

theorem takePayload_goesOn (b : Byte) (p : Nat) : FrameGoesOn s (s.takePayload b p) := by
  unfold State.takePayload
  extract_lets stored _ asked
  have hAsked : FrameGoesOn s asked := .ite {} {}
  exact .ite (hAsked.trans ((setHdr_goesOn b p).trans (addressMatch_goesOn b p))) hAsked

theorem ackSeqCheck_goesOn (b : Byte) : FrameGoesOn s (s.ackSeqCheck b) := .ite {} { st := .inr rfl }

/-- After the last payload byte the cursor is at the CRC (43_receiver.md R248). -/
theorem Rx.Fits.lastPayload {r r' : Rx} (h : r.Fits) (hst : r.st = .inPacket) (hst' : r'.st = .crc1) (hLen : r'.len = r.len)
    (hHdr : r'.hdr.length = r.hdr.length) : r'.Fits := by
  obtain ⟨hBefore, hMax⟩ := h.inPacket hst
  have hMin : 2 ≤ r.len.toNat := by omega
  constructor <;> simp [hst', hLen, hHdr, h.header, hMin, hMax]

/-- After another payload byte the cursor is still before the end, or the frame is given up. -/
theorem Rx.Fits.morePayload {r r' : Rx} (h : r.Fits) (hst : r.st = .inPacket) (hst' : r'.st = .inPacket ∨ r'.st = .sfdScan)
    (hPos : r'.pos = r.pos + 1) (hLen : r'.len = r.len) (hHdr : r'.hdr.length = r.hdr.length)
    (hMore : ¬ (r'.st = .inPacket ∧ r.pos + 1 + 2 = r'.len.toNat)) : r'.Fits := by
  obtain ⟨hBefore, hMax⟩ := h.inPacket hst
  obtain hst' | hst' := hst'
  · have hInside : r.pos + 1 + 2 < r.len.toNat := by
      have hNe : r.pos + 1 + 2 ≠ r.len.toNat := fun hEq => hMore ⟨hst', hLen ▸ hEq⟩
      omega
    constructor <;> simp [hst', hPos, hLen, hHdr, h.header, hInside, hMax]
  · exact h.of_scan hst' hHdr

theorem payloadByte_keeps (hs : s.Sound) (hst : s.rx.st = .inPacket) (b : Byte) : Keeps s (s.payloadByte b) := by
  unfold State.payloadByte
  extract_lets p _ counted taken
  have h : FrameGoesOn counted taken := .ite (.ite (ackSeqCheck_goesOn b) {}) (takePayload_goesOn b p)
  have ht : taken.tx.Fits := h.tx ▸ hs.tx
  split_ifs with hLast
  · exact .of_view hs (hs.rx.lastPayload hst rfl h.len h.hdr) ht h.view h.sendAck (h.trigger ▸ id)
  · have hr := hs.rx.morePayload hst (h.st.imp_left (·.trans hst)) h.pos h.len h.hdr hLast
    exact .of_view hs hr ht h.view h.sendAck (h.trigger ▸ id)

theorem crcByte1_keeps (hs : s.Sound) (hst : s.rx.st = .crc1) (b : Byte) : Keeps s (s.crcByte1 b) := by
  have hr : Rx.Fits { s.rx with crc1 := b, st := .crc2 } := by
    constructor <;> simp [hs.rx.header, hs.rx.atCrc (.inl hst)]
  unfold State.crcByte1
  dsimp only
  split_ifs
  · exact .of_view hs hr hs.tx
  · exact .of_view hs hr hs.tx

/-! ### The end of a frame -/

theorem ackFrameEnd_keeps (hs : s.Sound) (h : FrameEnds s u) (hw : u.awaitingAck = true) : Keeps s u.ackFrameEnd := by
  have hAwait : s.AwaitingAck := by
    obtain hl | ha := hs.receiving h.active
    · simp [h.wait_eq, hl.noWait] at hw
    · exact ha
  have htx : u.tx.active = false := h.tx ▸ hAwait.tx
  have hSend : u.sendAck = false := h.sendAck ▸ hAwait.noAck
  unfold State.ackFrameEnd
  extract_lets stopped
  split_ifs
  · have hr : stopped.rx.Fits := Rx.Fits.stopRx _ (h.fits hs)
    refine .idle hr ?_
    constructor <;> simp [stopped, htx, hSend]
  · exact .of_view hs (h.fits hs) (h.tx ▸ hs.tx) h.view (h.sendAck ▸ id) (h.trigger ▸ id)

theorem acceptedEnd_keeps (hs : s.Sound) (h : FrameEnds s u) (hw : u.awaitingAck = false) : Keeps s u.acceptedEnd := by
  unfold State.acceptedEnd
  extract_lets posted
  have hPosted : FrameEnds s posted := ⟨h.active, h.inProgress, h.rx, h.tx, h.view, h.sendAck, h.trigger⟩
  split_ifs with hWanted
  · have hS : posted.opState = .busyRxAack := by
      simp only [State.ackWanted, Bool.and_eq_true, decide_eq_true_eq] at hWanted
      obtain ⟨⟨-, hS⟩, -⟩ := hWanted
      exact hS
    have hl := (hs.listening h.active (h.wait_eq ▸ hw)).of_view h.view (h.sendAck ▸ id)
    refine ⟨⟨h.fits hs, .of_stopped hl.tx, ?_⟩, fun _ => .inl fun _ => hS⟩
    exact .listening ⟨hl.tx, hl.aret, hl.noWait, hl.state, fun _ => .inr hS⟩
  · exact returnToListen_keeps hs hPosted hw

theorem rxEnd_keeps (hs : s.Sound) (h : FrameEnds s (u.setRxCursor .sfdScan)) : Keeps s u.rxEnd := by
  unfold State.rxEnd
  extract_lets scan
  split_ifs with hw
  · exact ackFrameEnd_keeps hs h hw
  · exact returnToListen_keeps hs h (eq_false_of_ne_true hw)
  · exact acceptedEnd_keeps hs h (eq_false_of_ne_true hw)

theorem crcByte2_keeps (hs : s.Sound) (ha : s.rx.active = true) (hst : s.rx.st = .crc2) (b : Byte) : Keeps s (s.crcByte2 b) := by
  have h : FrameEnds s (((s.crcCheck b).setRxCursor .ended).setRxCursor .sfdScan) := by
    rw [crcCheck_like]
    exact ⟨ha, by rw [hst]; rfl, rfl, rfl, rfl, rfl, rfl⟩
  exact rxEnd_keeps hs h

theorem receiveByte_keeps (hs : s.Sound) (ha : s.rx.active = true) (b : Byte) : Keeps s (s.receiveByte b) := by
  unfold State.receiveByte
  split
  next => exact sync_keeps hs ha b
  next => exact sync_keeps hs ha b
  next hst => exact lengthByte_keeps hs ha hst b
  next hst => exact payloadByte_keeps hs hst b
  next hst => exact crcByte1_keeps hs hst b
  next hst => exact crcByte2_keeps hs ha hst b
  next hst => exact absurd hst hs.rx.running

theorem deliver_keeps (hs : s.Sound) (locked : Bool) (b : Byte) : Keeps s (s.deliver locked b) := by
  have hSampled : s.sampleRssi.Sound := hs.of_same
  unfold State.deliver
  split_ifs with ha
  · exact (receiveByte_keeps hSampled ha b).before
  · exact (lockLost_keeps hSampled ha).before
  · exact .of_same hs

/-! ### The ACK trigger, and every effect -/

theorem onAckTrigger_keeps (hs : s.Sound) (hn : s.pending.ackTrigger = none) (hk : ¬ s.SendingAck) :
    Keeps s s.onAckTrigger := by
  have hl (hS : s.opState = .busyRxAack) : s.Listening := by
    cases hs.phase with
    | listening hp => exact hp
    | sendingAck hp => exact absurd hp hk
    | idle hp => exact ⟨hp.tx, hp.aret, hp.noWait, .inr (.inr (.inr hS)), by simp [hp.noAck]⟩
    | contending hp | awaitingAck hp => simp [hp.state] at hS
    | sendingFrame hp => simpa [hS] using hp.state
  unfold State.onAckTrigger
  split_ifs with hDue hQuiet
  · simp only [Bool.and_eq_true, decide_eq_true_eq] at hDue
    obtain ⟨-, hS⟩ := hDue
    obtain ⟨htx, hAret, hw, -, -⟩ := hl hS
    have hr := Rx.Fits.stopRx { s with sendAck := false } hs.rx
    refine .sendingAck (by simpa using hr) (.startTx _ (by simpa using htx)) ?_
    constructor <;> simp [startTx_tx_stopped, *]
  · simp only [Bool.and_eq_true, decide_eq_true_eq] at hDue hQuiet
    obtain ⟨hS, -⟩ := hQuiet
    obtain ⟨htx, hAret, hw, -, -⟩ := hl hS
    have hSend : s.sendAck = false := by simpa [hS] using hDue
    exact .listening hs.rx ⟨htx, hAret, hw, .inr (.inl rfl), fun _ => .inl rfl⟩ hSend
  · exact .of_same hs

/-- Every effect leads from a phase to a phase. -/
theorem Effect.keeps {t : State} (h : Effect s t) (hs : s.Sound) : Keeps s t := by
  cases h with
  | emitted | stored | irqCleared | irqMasked | pulledStopped | advanced => exact .of_same hs
  | commandWritten code => exact writeTrxState_keeps hs code
  | ccCcaWritten request mode channel => exact writePhyCcCca_keeps hs request mode channel
  | trxprWritten upper slptr => exact writeTrxpr_keeps hs upper slptr
  | pulled ha => exact pullActive_keeps hs ha
  | delivered locked b => exact deliver_keeps hs locked b
  | ccaDelayFired => exact (onCcaDelay_keeps hs.of_same).before
  | wakeupFired => exact (onWakeup_keeps hs.of_same).before
  | ackTimeoutFired => exact (onAckTimeout_keeps hs.of_same).before
  | ackTriggerFired hd =>
    have hCancelled : (s.cancel .ackTrigger).Sound := hs.of_same rfl rfl rfl rfl fun _ => rfl
    have hk : ¬ (s.cancel .ackTrigger).SendingAck := fun hk => by
      obtain hp | hp := hs.sending hk.tx
      · exact absurd (hp.noTrigger.symm.trans hd) (by simp)
      · exact absurd (hp.kind.symm.trans hk.kind) (by simp)
    exact (onAckTrigger_keeps hCancelled rfl hk).before
  | pinned raised => exact pinInput_keeps hs raised
  | poweredOn => exact powerOnReset_keeps
  | restarted => exact explicitReset_keeps

end

end Sys2Proof.Machine

section
open Sys2Proof.Machine

/-- Settles O56: every effect leads from a phase to a phase (`Effect.keeps`). -/
theorem sequencingHolds : Obligations.SequencingHolds := by
  unfold Obligations.SequencingHolds
  intro s t hSeq hBounds h
  have hs : State.Sound { s with inputs := s.inputs.tail } := (State.Sound.of_sequenced hSeq hBounds).of_same
  have hKept : Keeps s t := ((step_effect h).keeps hs).before
  exact ⟨hKept.sound.sequenced, hKept.sound.framesInBounds, hKept.sendAck⟩

end

/-! ### O6, O7, O8: the host's accesses -/

namespace Sys2Proof

/-- The word of a host write decodes by its address and data alone (30_encoding.md R110, R111). -/
theorem decode_writeWord (a : RegAddr) (v : Byte) : decode (writeWord a v) = decodeWrite a v := by
  have hKind : field (writeWord a v) 17 3 = 1#3 := by
    rw [writeWord, kindWord, field_cat_high _ _ _ _ _ (by decide) (by decide), Nat.sub_self, field_zero_full]
  have hAddr : field (writeWord a v) 8 9 = a := by
    rw [writeWord, kindWord, field_cat_low _ _ _ _ _ (by decide) (by decide),
      field_cat_high _ _ _ _ _ (by decide) (by decide), Nat.sub_self, field_zero_full]
  have hData : field (writeWord a v) 0 8 = v := by
    rw [writeWord, kindWord, field_cat_low _ _ _ _ _ (by decide) (by decide),
      field_cat_low _ _ _ _ _ (by decide) (by decide), field_zero_full]
  simp [decode, hKind, hAddr, hData]

end Sys2Proof

namespace Sys2Proof.Machine

/-- Every command's row writes TRX_STATE with the code it stands for (30_encoding.md R120, R121). -/
theorem exec_decodeCommand (c : BitVec 5) (s : State) : exec (decodeCommand c) s = .next (s.writeTrxState c) := by
  obtain ⟨n, hn⟩ := c
  interval_cases n <;> rfl

/-- The frame buffer's index of an address is its low seven bits (20_memory.md R80). -/
theorem fbAddr_field {a : RegAddr} (h : Addr.fbBase ≤ a.toNat) : fbAddr (field a 0 7) = a.toNat := by
  have hIndex : (field a 0 7).toNat = a.toNat % 128 := by simp [field]
  have hLt : a.toNat < 512 := a.isLt
  have hBase : 384 ≤ a.toNat := h
  show 384 + (field a 0 7).toNat = a.toNat
  omega

/-! ### The write map, address by address (R83) -/

section
variable (s : State) (v : Byte)

theorem hostWrite_trxpr :
    s.hostWrite Addr.trxpr v = if bit v 0 then s.explicitReset else s.writeTrxpr (field v 2 6) (bit v 1) := rfl

theorem hostWrite_trxState : s.hostWrite Addr.trxState v = s.writeTrxState (field v 0 5) := rfl

theorem hostWrite_phyCcCca : s.hostWrite Addr.phyCcCca v = s.writePhyCcCca (bit v 7) (field v 5 2) (field v 0 5) := rfl

theorem hostWrite_irqStatus : s.hostWrite Addr.irqStatus v = s.clearIrq v := rfl

theorem hostWrite_irqMask : s.hostWrite Addr.irqMask v = s.writeIrqMask v := rfl

/-- R84's registers. -/
theorem hostWrite_readOnly {a : Nat}
    (h : a = Addr.trxStatus ∨ a = Addr.phyRssi ∨ a = Addr.phyEdLevel ∨ a = Addr.tstRxLength) :
    s.hostWrite a v = s.writeReadOnly a := by
  obtain rfl | rfl | rfl | rfl := h <;> rfl

/-- Outside the trapped and the read-only registers a write is plain storage. -/
theorem hostWrite_of_notMem {a : Nat} (h : a ∉ specialWriteAddrs) : s.hostWrite a v = s.setReg a v := by
  simp only [specialWriteAddrs, List.mem_cons, List.not_mem_nil, or_false, not_or] at h
  simp [State.hostWrite, h]

/-- Whichever row a host write decodes to, its meaning is that of the write map. -/
theorem exec_decodeWrite (a : RegAddr) : exec (decodeWrite a v) s = .next (s.hostWrite a.toNat v) := by
  simp only [decodeWrite]
  split_ifs with hFb hTrxState hCcCca hRequest hTrxpr hReset hStatus hMask hTrxStatus hRssi hEd hLength
  · have hPlain : a.toNat ∉ specialWriteAddrs := fbAddr_field hFb ▸ fbAddr_notMem _ (by decide)
    rw [hostWrite_of_notMem s v hPlain, ← fbAddr_field hFb]
    rfl
  · rw [exec_decodeCommand, hTrxState, hostWrite_trxState]
  · rw [hCcCca, hostWrite_phyCcCca, hRequest]
    rfl
  · rw [hCcCca, hostWrite_phyCcCca, eq_false_of_ne_true hRequest]
    rfl
  · rw [hTrxpr, hostWrite_trxpr, if_pos hReset]
    rfl
  · rw [hTrxpr, hostWrite_trxpr, if_neg hReset]
    rfl
  · rw [hStatus, hostWrite_irqStatus]
    rfl
  · rw [hMask, hostWrite_irqMask]
    rfl
  · rw [hostWrite_readOnly s v (.inl hTrxStatus), hTrxStatus]
    rfl
  · rw [hostWrite_readOnly s v (.inr (.inl hRssi)), hRssi]
    rfl
  · rw [hostWrite_readOnly s v (.inr (.inr (.inl hEd))), hEd]
    rfl
  · rw [hostWrite_readOnly s v (.inr (.inr (.inr hLength))), hLength]
    rfl
  · rfl

end

/-! ### Plain storage, and the registers that store nothing -/

/-- Plain storage: one byte changes, and nothing else. -/
theorem setReg_answers (s : State) (a : Nat) (v : Byte) :
    Answers (.next (s.setReg a v)) s (fun b => if b = a then v else s.reg b) :=
  ⟨_, rfl, rfl, fun b => setReg_reg s a b v⟩

theorem notMem_of_plainWriteAddr {a : RegAddr} (h : plainWriteAddr a = true) : a.toNat ∉ specialWriteAddrs := by
  simp only [plainWriteAddr, Bool.and_eq_true, Bool.not_eq_true', List.contains_eq_mem, decide_eq_false_iff_not] at h
  exact h.2

/-- WR at its own addresses is plain storage (R83). -/
theorem exec_wr_of_plain (s : State) {a : RegAddr} (v : Byte) (h : plainWriteAddr a = true) :
    exec (.wr a v) s = .next (s.setReg a.toNat v) :=
  congrArg Host.Outcome.next (hostWrite_of_notMem s v (notMem_of_plainWriteAddr h))

/-- The write of PHY_CC_CCA without a request stores the mode and the channel only (10_state.md R30). -/
theorem exec_wrPhyCcCca (m : BitVec 2) (c : BitVec 5) (s : State) :
    exec (.wrPhyCcCca m c) s = .next (s.setReg Addr.phyCcCca ((m.setWidth 8 <<< 5) ||| c.setWidth 8)) :=
  congrArg (fun v => Host.Outcome.next (s.setReg Addr.phyCcCca v)) (ccCca_eq m c)

/-- R84: a write of a read-only register outputs the diagnostic and does no more. -/
theorem exec_readOnlyWrite {i : Instr} (s : State)
    (h : i ∈ [Instr.wrRoTrxStatus, .wrRoPhyRssi, .wrRoPhyEdLevel, .wrRoTstRxLength]) : ∃ d, exec i s = .next (s.diag d) := by
  simp only [List.mem_cons, List.not_mem_nil, or_false] at h
  obtain rfl | rfl | rfl | rfl := h <;> exact ⟨_, rfl⟩

/-- The fields defined as "reads 0" are stored as 0 where the registers mirror the state (10_state.md R24, R25, R28, R30). -/
theorem State.Mirrors.reads_zero {s : State} (h : s.Mirrors) :
    bit (s.reg Addr.trxpr) 0 = false ∧ bit (s.reg Addr.phyCcCca) 7 = false ∧ bit (s.reg Addr.trxStatus) 5 = false ∧
      field (s.reg Addr.phyRssi) 5 2 = 0#2 := by
  obtain ⟨-, hStatus5, -, hReset, -, hRnd, hRequest, -⟩ := h
  exact ⟨hReset, hRequest, hStatus5, hRnd⟩

end Sys2Proof.Machine

section
open Sys2Proof Sys2Proof.Machine

/-- Settles O6: the write word decodes by address and data (`decode_writeWord`), and each row so found does what the write map
says (`exec_decodeWrite`). -/
theorem writeRowsFollowTheWriteMap : Obligations.WriteRowsFollowTheWriteMap := by
  unfold Obligations.WriteRowsFollowTheWriteMap
  intro a v s
  rw [decode_writeWord, exec_decodeWrite]
  rfl

/-- Settles O7: the meaning of RD, and the clauses of the mirrors that say "reads 0". -/
theorem hostReadReturnsRegister : Obligations.HostReadReturnsRegister := by
  unfold Obligations.HostReadReturnsRegister
  exact fun _ _ => ⟨rfl, fun h => h.reads_zero⟩

/-- Settles O8: three kinds of row are plain storage of one byte (`setReg_answers`), the read-only rows are a diagnostic
(`exec_readOnlyWrite`). -/
theorem plainAndReadOnlyWrites : Obligations.PlainAndReadOnlyWrites := by
  unfold Obligations.PlainAndReadOnlyWrites
  refine ⟨fun a v s hPlain => ?wr, fun i v s => ?wrFb, fun m c s => ?ccCca, fun i s hi => ?readOnly⟩
  case wr =>
    rw [exec_wr_of_plain s v hPlain]
    exact setReg_answers s a.toNat v
  case wrFb => exact setReg_answers s (fbAddr i) v
  case ccCca =>
    rw [exec_wrPhyCcCca]
    exact setReg_answers s Addr.phyCcCca _
  case readOnly => exact exec_readOnlyWrite s hi

end

/-! ### O1, O2, O3, O4: the input words -/

namespace Sys2Proof

/-! ### A word's kind and the bits under it -/

/-- A concatenation masks part by part. -/
theorem cat_and_cat {m n : Nat} (k : Nat) (hi hi' : BitVec m) (lo lo' : BitVec n) :
    cat k hi lo &&& cat k hi' lo' = cat k (hi &&& hi') (lo &&& lo') := by
  simp [cat, ← BitVec.and_append, BitVec.setWidth_and]

theorem field_and {w : Nat} (x y : BitVec w) (lo n : Nat) : field (x &&& y) lo n = field x lo n &&& field y lo n :=
  BitVec.extractLsb'_and

/-- Words that agree under a mask agree on every field the mask holds whole. -/
theorem field_eq_of_and_eq {w lo n : Nat} {x y m : BitVec w} (h : x &&& m = y &&& m)
    (hm : field m lo n = BitVec.allOnes n) : field x lo n = field y lo n := by
  have hField := congrArg (field · lo n) h
  simpa only [field_and, hm, BitVec.and_allOnes] using hField

/-- Words that agree under a mask of all bits are equal. -/
theorem eq_of_and_eq {w : Nat} {x y m : BitVec w} (h : x &&& m = y &&& m) (hm : m = BitVec.allOnes w) : x = y := by
  simpa only [hm, BitVec.and_allOnes] using h

/-- Words that agree under a mask agree on every bit the mask holds. -/
theorem bit_eq_of_and_eq {w i : Nat} {x y m : BitVec w} (h : x &&& m = y &&& m) (hm : bit m i = true) :
    bit x i = bit y i := by
  have hBit := congrArg (bit · i) h
  simpa only [bit_and, hm, Bool.and_true] using hBit

/-- The eight kinds of an input word (R110). -/
theorem kind_cases (k : BitVec 3) :
    k = 0#3 ∨ k = 1#3 ∨ k = 2#3 ∨ k = 3#3 ∨ k = 4#3 ∨ k = 5#3 ∨ k = 6#3 ∨ k = 7#3 := by
  revert k
  decide

@[simp] theorem field_kindWord_kind (k : BitVec 3) (x : BitVec 17) : field (kindWord k x) 17 3 = k := by
  rw [kindWord, field_cat_high _ _ _ _ _ (by decide) (by decide), Nat.sub_self, field_zero_full]

theorem field_kindWord (k : BitVec 3) (x : BitVec 17) {lo n : Nat} (h : lo + n ≤ 17) :
    field (kindWord k x) lo n = field x lo n :=
  field_cat_low _ _ _ _ _ h (by decide)

theorem bit_kindWord (k : BitVec 3) (x : BitVec 17) {i : Nat} (h : i < 17) : bit (kindWord k x) i = bit x i := by
  have hWord : i < 20 := by omega
  simp [kindWord, bit_cat, h, hWord]

/-- Every word is of a kind (30_encoding.md R110). -/
theorem kindWord_fields (w : InputWord) : kindWord (field w 17 3) (field w 0 17) = w :=
  cat_field_split w 17

theorem kindWord_and (k k' : BitVec 3) (x x' : BitVec 17) :
    kindWord k x &&& kindWord k' x' = kindWord (k &&& k') (x &&& x') :=
  cat_and_cat 20 k k' x x'

/-- Every word of kind 1 is a host write (R110, R111). -/
theorem writeWord_fields (x : BitVec 17) : writeWord (field x 8 9) (field x 0 8) = kindWord 1#3 x :=
  congrArg (kindWord 1#3) (cat_field_split x 8)

/-! ### The decoder, kind by kind (R110) -/

section
variable (x : BitVec 17)

theorem decode_read : decode (kindWord 0#3 x) = .rd (field x 8 9) := by
  simp [decode, field_kindWord]

theorem decode_write : decode (kindWord 1#3 x) = decodeWrite (field x 8 9) (field x 0 8) := by
  simp [decode, field_kindWord]

theorem decode_pull : decode (kindWord 2#3 x) = .pull := by
  simp [decode]

theorem decode_delivery :
    decode (kindWord 3#3 x) = if bit x 8 then .rxbL (field x 0 8) else .rxbU (field x 0 8) := by
  simp [decode, field_kindWord, bit_kindWord]

theorem decode_fire : decode (kindWord 4#3 x) = decodeFire (field x 0 2) := by
  simp [decode, field_kindWord]

theorem decode_pin : decode (kindWord 5#3 x) = if bit x 0 then .pin1 else .pin0 := by
  simp [decode, bit_kindWord]

theorem decode_reset : decode (kindWord 6#3 x) = if bit x 0 then .resetExplicit else .resetPor := by
  simp [decode, bit_kindWord]

theorem decode_advance : decode (kindWord 7#3 x) = .adv x := by
  simp [decode, field_kindWord]

end

end Sys2Proof

namespace Sys2Proof.Machine

/-! ### The ignored bits (R114) -/

/-- The kind is never ignored. -/
theorem field_definedBits_kind (k : BitVec 3) : field (definedBits k) 17 3 = BitVec.allOnes 3 := by
  revert k
  decide

/-- Words of one kind that agree on the bits defined for it decode alike. -/
theorem decode_kindWord_eq_of_and_eq (k : BitVec 3) {x x' : BitVec 17}
    (h : x &&& field (definedBits k) 0 17 = x' &&& field (definedBits k) 0 17) :
    decode (kindWord k x) = decode (kindWord k x') := by
  obtain rfl | rfl | rfl | rfl | rfl | rfl | rfl | rfl := kind_cases k
  · rw [decode_read, decode_read, field_eq_of_and_eq h (by decide)]
  · rw [eq_of_and_eq h (by decide)]
  · rw [decode_pull, decode_pull]
  · rw [decode_delivery, decode_delivery, bit_eq_of_and_eq h (by decide), field_eq_of_and_eq h (by decide)]
  · rw [decode_fire, decode_fire, field_eq_of_and_eq h (by decide)]
  · rw [decode_pin, decode_pin, bit_eq_of_and_eq h (by decide)]
  · rw [decode_reset, decode_reset, bit_eq_of_and_eq h (by decide)]
  · rw [eq_of_and_eq h (by decide)]

end Sys2Proof.Machine

section
open Sys2Proof Sys2Proof.Machine

/-- Settles O2: the kind is among the defined bits, and within a kind the decoder reads defined bits only
(`decode_kindWord_eq_of_and_eq`). -/
theorem ignoredBitsHaveNoEffect : Obligations.IgnoredBitsHaveNoEffect := by
  unfold Obligations.IgnoredBitsHaveNoEffect
  intro w w' h
  have hKind : field w 17 3 = field w' 17 3 := field_eq_of_and_eq h (field_definedBits_kind _)
  have hLow := congrArg (field · 0 17) h
  simp only [field_and] at hLow
  rw [← kindWord_fields w, ← kindWord_fields w', ← hKind]
  exact decode_kindWord_eq_of_and_eq _ hLow

end

/-! ### Words read through the opcode table's bit numbers -/

namespace Sys2Proof

theorem decodeNat_toNat (w : InputWord) : decodeNat w.toNat = .ok (decode w) := by
  rw [decodeNat, if_pos w.isLt, BitVec.ofNat_toNat, BitVec.setWidth_eq]

/-- An input word has the 20 bits the opcode table numbers, so the table's word decodes as the word does. -/
theorem decodeTableWord_toNat (w : InputWord) : decodeTableWord 20 w.toNat = some (decode w) := by
  rw [decodeTableWord, Nat.mod_eq_of_lt w.isLt, decodeNat_toNat]
  rfl

/-! ### Host writes, row by row (R83, R120, R122) -/

/-- A frame-buffer address is 0b11 before its index (20_memory.md R80). -/
theorem fbBase_le_iff {a : RegAddr} : Addr.fbBase ≤ a.toNat ↔ field a 7 2 = 3#2 := by
  have hField : (field a 7 2).toNat = a.toNat / 128 % 4 := by simp [field, Nat.shiftRight_eq_div_pow]
  have hLt : a.toNat < 512 := a.isLt
  rw [← BitVec.toNat_inj, hField]
  show 384 ≤ a.toNat ↔ a.toNat / 128 % 4 = 3
  omega

theorem decodeWrite_frameBuffer (index : BitVec 7) (v : Byte) :
    decodeWrite (cat 9 3#2 index) v = .wrFb index v := by
  have hBase : Addr.fbBase ≤ (cat 9 3#2 index).toNat :=
    fbBase_le_iff.mpr (field_cat_high 9 3#2 index 7 2 (by decide) (by decide))
  rw [decodeWrite, if_pos hBase, field_cat_low _ _ _ _ _ (by decide) (by decide), field_zero_full]

theorem plainWriteAddr_iff {a : RegAddr} :
    plainWriteAddr a = true ↔ a.toNat < Addr.fbBase ∧ a.toNat ∉ specialWriteAddrs := by
  simp [plainWriteAddr]

theorem decodeWrite_plain {a : RegAddr} (v : Byte) (h : plainWriteAddr a = true) : decodeWrite a v = .wr a v := by
  obtain ⟨hBase, hSpecial⟩ := plainWriteAddr_iff.mp h
  simp only [specialWriteAddrs, List.mem_cons, List.not_mem_nil, or_false, not_or] at hSpecial
  simp [decodeWrite, Nat.not_le_of_lt hBase, hSpecial]

theorem decodeWrite_trxState (v : Byte) : decodeWrite (BitVec.ofNat 9 Addr.trxState) v = decodeCommand (field v 0 5) := rfl

theorem decodeWrite_phyCcCca (v : Byte) :
    decodeWrite (BitVec.ofNat 9 Addr.phyCcCca) v =
      if bit v 7 then .cca (field v 5 2) (field v 0 5) else .wrPhyCcCca (field v 5 2) (field v 0 5) := rfl

theorem decodeWrite_trxpr (v : Byte) :
    decodeWrite (BitVec.ofNat 9 Addr.trxpr) v = if bit v 0 then .trxrst else .wrTrxprSlptr (field v 2 6) (bit v 1) := rfl

theorem decode_commandWord (c : BitVec 5) : decode (commandWord c) = decodeCommand c := by
  rw [commandWord, decode_writeWord, decodeWrite_trxState, field_cat_low _ _ _ _ _ (by decide) (by decide), field_zero_full]

theorem decode_ccCcaWord (request : Bool) (mode : BitVec 2) (channel : BitVec 5) :
    decode (writeWord (BitVec.ofNat 9 Addr.phyCcCca) (cat 8 (bitOf request) (cat 7 mode channel))) =
      if request then .cca mode channel else .wrPhyCcCca mode channel := by
  rw [decode_writeWord, decodeWrite_phyCcCca]
  simp [bit_cat, field_cat_low, field_cat_high]

theorem decode_trxprWord (upper : BitVec 6) (slptr : Bool) :
    decode (writeWord (BitVec.ofNat 9 Addr.trxpr) (cat 8 upper (cat 2 (bitOf slptr) 0#1))) = .wrTrxprSlptr upper slptr := by
  rw [decode_writeWord, decodeWrite_trxpr]
  simp [bit_cat, field_cat_high, bit_zero]

/-- The encoder's word of a well-formed input decodes to it, row by row. -/
theorem decode_encode {i : Instr} (h : i.wf = true) : decode (encode i) = i := by
  cases i with
  | rd addr => rw [encode, decode_read, field_cat_high _ _ _ _ _ (by decide) (by decide), Nat.sub_self, field_zero_full]
  | wr addr data => rw [encode, decode_writeWord, decodeWrite_plain data h]
  | wrFb index data => rw [encode, decode_writeWord, decodeWrite_frameBuffer]
  | cmdNop | cmdTxStart | cmdForceTrxOff | cmdForcePllOn | cmdRxOn | cmdTrxOff | cmdPllOn | cmdRxAackOn | cmdTxAretOn
  | cmdInvalid01 | cmdInvalid05 | cmdInvalid07 | cmdInvalid0A | cmdInvalid0B | cmdInvalid0C | cmdInvalid0D | cmdInvalid0E
  | cmdInvalid0F | cmdInvalid10 | cmdInvalid11 | cmdInvalid12 | cmdInvalid13 | cmdInvalid14 | cmdInvalid15 | cmdInvalid17
  | cmdInvalid18 | cmdInvalid1A | cmdInvalid1B | cmdInvalid1C | cmdInvalid1D | cmdInvalid1E | cmdInvalid1F =>
    exact decode_commandWord _
  | cca mode channel => exact decode_ccCcaWord true mode channel
  | wrPhyCcCca mode channel => exact decode_ccCcaWord false mode channel
  | wrTrxprSlptr upper slptr => exact decode_trxprWord upper slptr
  | trxrst | clrirq | wrIrqMask | wrRoTrxStatus | wrRoPhyRssi | wrRoPhyEdLevel | wrRoTstRxLength =>
    exact decode_writeWord _ _
  | rxbL byte | rxbU byte =>
    rw [encode, decode_delivery, bit_cat, field_cat_low _ _ _ _ _ (by decide) (by decide), field_zero_full]
    rfl
  | adv n => exact decode_advance n
  | pull | fireCcaDelay | fireWakeup | fireAckTimeout | fireAckTrigger | pin1 | pin0 | resetPor | resetExplicit => rfl

/-! ### The rows of the opcode table -/

/-- The input is well-formed and the word agrees with its row's mask and match (opcode_table.json). -/
def Instr.RowHas (i : Instr) (w : InputWord) : Prop :=
  i.wf = true ∧ w &&& (tableRow i).2 = (tableRow i).1

/-- The low bits of a word, by a mask. -/
theorem and_low {w : Nat} (v : BitVec w) (n : Nat) :
    v &&& cat w (0#(w - n)) (BitVec.allOnes n) = cat w (0#(w - n)) (field v 0 n) := by
  calc v &&& cat w (0#(w - n)) (BitVec.allOnes n)
      = cat w (field v n (w - n)) (field v 0 n) &&& cat w (0#(w - n)) (BitVec.allOnes n) := by rw [cat_field_split]
    _ = cat w (0#(w - n)) (field v 0 n) := by simp [cat_and_cat]

/-- One bit of a word, by a mask. -/
theorem and_bit {w i : Nat} {v : BitVec w} {b : Bool} (h : bit v i = b) :
    v &&& BitVec.twoPow w i = if b then BitVec.twoPow w i else 0#w := by
  rw [BitVec.and_twoPow]
  exact congrArg (fun c : Bool => if c then BitVec.twoPow w i else 0#w) h

/-- A write word under a mask of the kind, of address bits and of data bits. -/
theorem writeWord_and {a am a' : RegAddr} {v vm v' : Byte} (ha : a &&& am = a') (hv : v &&& vm = v') :
    writeWord a v &&& kindWord 7#3 (cat 17 am vm) = writeWord a' v' := by
  rw [writeWord, kindWord_and, cat_and_cat, ha, hv]
  rfl

/-- A row of one address, whose mask has the whole address. -/
theorem writeWord_and_addr {a : RegAddr} {n : Nat} {v vm v' : Byte} (ha : a.toNat = n) (hv : v &&& vm = v') :
    writeWord a v &&& kindWord 7#3 (cat 17 (BitVec.allOnes 9) vm) = writeWord (BitVec.ofNat 9 n) v' := by
  refine writeWord_and ?_ hv
  rw [BitVec.and_allOnes, ← ha, BitVec.ofNat_toNat, BitVec.setWidth_eq]

/-- A word under a mask of the whole kind and of bits under it. -/
theorem kindWord_and_low (k : BitVec 3) {x m x' : BitVec 17} (h : x &&& m = x') :
    kindWord k x &&& kindWord 7#3 m = kindWord k x' := by
  rw [kindWord_and, h]
  exact congrArg (kindWord · x') BitVec.and_allOnes

/-- The frame buffer's address bits, by the mask of its row. -/
theorem and_frameBuffer {a : RegAddr} (h : field a 7 2 = 3#2) : a &&& 0x180#9 = 0x180#9 := by
  calc a &&& 0x180#9 = cat 9 (field a 7 2) (field a 0 7) &&& cat 9 3#2 0#7 := by rw [cat_field_split a 7]; rfl
    _ = 0x180#9 := by rw [h, cat_and_cat, BitVec.and_zero]; rfl

/-- Every command's row fixes the address and the code, and leaves the data's upper bits free (R114, R120). -/
theorem tableRow_decodeCommand (c : BitVec 5) :
    (decodeCommand c).wf = true ∧
      tableRow (decodeCommand c) = (commandWord c, kindWord 7#3 (cat 17 (BitVec.allOnes 9) 0x1F#8)) := by
  revert c
  decide

theorem decodeCommand_rowHas {a : RegAddr} (h : a.toNat = Addr.trxState) (v : Byte) :
    (decodeCommand (field v 0 5)).RowHas (writeWord a v) := by
  obtain ⟨hWf, hRow⟩ := tableRow_decodeCommand (field v 0 5)
  refine ⟨hWf, ?_⟩
  rw [hRow]
  exact writeWord_and_addr h (and_low v 5)

/-- A branch of the decoder is of a row when each arm is. -/
theorem Instr.RowHas.ite {c : Prop} [Decidable c] {w : InputWord} {i j : Instr} (hi : c → i.RowHas w)
    (hj : ¬ c → j.RowHas w) : (if c then i else j).RowHas w := by
  split_ifs with h
  · exact hi h
  · exact hj h

/-- Every host write is of the row it decodes to, the rows with longer masks before WR (R83, R122). -/
theorem decodeWrite_rowHas (a : RegAddr) (v : Byte) : (decodeWrite a v).RowHas (writeWord a v) := by
  unfold decodeWrite
  refine .ite (fun hFb => ?wrFb) fun hFb => .ite (fun hTrxState => ?command) fun hTrxState =>
    .ite (fun hCcCca => .ite (fun hRequest => ?cca) fun hRequest => ?wrPhyCcCca) fun hCcCca =>
    .ite (fun hTrxpr => .ite (fun hReset => ?trxrst) fun hReset => ?wrTrxprSlptr) fun hTrxpr =>
    .ite (fun hStatus => ?clrirq) fun hStatus => .ite (fun hMask => ?wrIrqMask) fun hMask =>
    .ite (fun hTrxStatus => ?wrRoTrxStatus) fun hTrxStatus => .ite (fun hRssi => ?wrRoPhyRssi) fun hRssi =>
    .ite (fun hEd => ?wrRoPhyEdLevel) fun hEd => .ite (fun hLength => ?wrRoTstRxLength) fun hLength => ?wr
  case wrFb => exact ⟨rfl, writeWord_and (and_frameBuffer (fbBase_le_iff.mp hFb)) BitVec.and_zero⟩
  case command => exact decodeCommand_rowHas hTrxState v
  case cca => exact ⟨rfl, writeWord_and_addr hCcCca (and_bit hRequest)⟩
  case wrPhyCcCca => exact ⟨rfl, writeWord_and_addr hCcCca (and_bit (eq_false_of_ne_true hRequest))⟩
  case trxrst => exact ⟨rfl, writeWord_and_addr hTrxpr (and_bit hReset)⟩
  case wrTrxprSlptr => exact ⟨rfl, writeWord_and_addr hTrxpr (and_bit (eq_false_of_ne_true hReset))⟩
  case clrirq => exact ⟨rfl, writeWord_and_addr hStatus BitVec.and_zero⟩
  case wrIrqMask => exact ⟨rfl, writeWord_and_addr hMask BitVec.and_zero⟩
  case wrRoTrxStatus => exact ⟨rfl, writeWord_and_addr hTrxStatus BitVec.and_zero⟩
  case wrRoPhyRssi => exact ⟨rfl, writeWord_and_addr hRssi BitVec.and_zero⟩
  case wrRoPhyEdLevel => exact ⟨rfl, writeWord_and_addr hEd BitVec.and_zero⟩
  case wrRoTstRxLength => exact ⟨rfl, writeWord_and_addr hLength BitVec.and_zero⟩
  case wr =>
    have hSpecial : a.toNat ∉ specialWriteAddrs := by simp [specialWriteAddrs, *]
    exact ⟨plainWriteAddr_iff.mpr ⟨Nat.lt_of_not_le hFb, hSpecial⟩, writeWord_and BitVec.and_zero BitVec.and_zero⟩

/-- Every firing's row fixes the kind and the event (R112). -/
theorem tableRow_decodeFire (e : BitVec 2) :
    (decodeFire e).wf = true ∧ tableRow (decodeFire e) = (kindWord 4#3 (cat 17 0#15 e), kindWord 7#3 0x00003#17) := by
  revert e
  decide

theorem decodeFire_rowHas (x : BitVec 17) : (decodeFire (field x 0 2)).RowHas (kindWord 4#3 x) := by
  obtain ⟨hWf, hRow⟩ := tableRow_decodeFire (field x 0 2)
  refine ⟨hWf, ?_⟩
  rw [hRow]
  exact kindWord_and_low _ (and_low x 2)

/-- Every word is of the row it decodes to, kind by kind (R110). -/
theorem decode_rowHas (k : BitVec 3) (x : BitVec 17) : (decode (kindWord k x)).RowHas (kindWord k x) := by
  obtain rfl | rfl | rfl | rfl | rfl | rfl | rfl | rfl := kind_cases k
  · rw [decode_read]
    exact ⟨rfl, kindWord_and_low _ BitVec.and_zero⟩
  · rw [decode_write, ← writeWord_fields]
    exact decodeWrite_rowHas _ _
  · rw [decode_pull]
    exact ⟨rfl, kindWord_and_low _ BitVec.and_zero⟩
  · rw [decode_delivery]
    exact .ite (fun hLocked => ⟨rfl, kindWord_and_low _ (and_bit hLocked)⟩)
      fun hLocked => ⟨rfl, kindWord_and_low _ (and_bit (eq_false_of_ne_true hLocked))⟩
  · rw [decode_fire]
    exact decodeFire_rowHas x
  · rw [decode_pin]
    exact .ite (fun hHigh => ⟨rfl, kindWord_and_low _ (and_bit hHigh)⟩)
      fun hHigh => ⟨rfl, kindWord_and_low _ (and_bit (eq_false_of_ne_true hHigh))⟩
  · rw [decode_reset]
    exact .ite (fun hExplicit => ⟨rfl, kindWord_and_low _ (and_bit hExplicit)⟩)
      fun hExplicit => ⟨rfl, kindWord_and_low _ (and_bit (eq_false_of_ne_true hExplicit))⟩
  · rw [decode_advance]
    exact ⟨rfl, kindWord_and_low _ BitVec.and_zero⟩

end Sys2Proof

section
open Sys2Proof Sys2Proof.Machine

/-- Settles O1: each row of the encoder decodes back (`decode_encode`), and the table's bit numbers are the word's
(`decodeTableWord_toNat`). -/
theorem decodeOfEncodeIsIdentity : Obligations.DecodeOfEncodeIsIdentity := by
  unfold Obligations.DecodeOfEncodeIsIdentity
  intro i h
  exact ⟨decode_encode h, by rw [decodeTableWord_toNat, decode_encode h]⟩

/-- Settles O3: a word is its kind and the bits under it, and each kind decodes to a row the word agrees with
(`decode_rowHas`). -/
theorem decodedWordMatchesItsTableRow : Obligations.DecodedWordMatchesItsTableRow := by
  unfold Obligations.DecodedWordMatchesItsTableRow
  intro w
  rw [← kindWord_fields w]
  exact decode_rowHas _ _

/-- Settles O4, by evaluating the decoder on the fifteen words. -/
theorem sampleWordsDecode : Obligations.SampleWordsDecode := by
  unfold Obligations.SampleWordsDecode
  decide

end

/-! ### O32: the CRC residue -/

namespace Sys2Proof.Machine

/-! ### The CRC as a shift register fed one bit at a time (00_scope.md R18) -/

/-- A bit equal to the one shifted out leaves the polynomial out. -/
theorem crc16Bit_of_eq {c : BitVec 16} {d : Bool} (h : bit c 15 = d) : crc16Bit c d = c <<< 1 := by
  simp [crc16Bit, h]

/-- The polynomial is odd, so another bit leaves 1 at the low end. -/
theorem bit_crc16Bit_of_ne {c : BitVec 16} {d : Bool} (h : bit c 15 ≠ d) : bit (crc16Bit c d) 0 = true := by
  rw [crc16Bit, if_pos (bne_iff_ne.mpr h)]
  simp [bit, Config.crcPoly]

theorem bit_shiftLeft_one (c : BitVec 16) {i : Nat} (h : i < 15) : bit (c <<< 1) (15 - i) = bit c (15 - (i + 1)) := by
  have hIndex : 15 - i = 14 - i + 1 := by omega
  have hLt : 14 - i + 1 < 16 := by omega
  rw [bit, hIndex, BitVec.getLsbD_shiftLeft]
  simp [bit, hLt]

/-- Feeding at most sixteen bits leaves 0 exactly when the accumulator holds those bits at its top and 0 under them. -/
theorem foldl_crc16Bit_eq_zero_iff (ds : List Bool) (c : BitVec 16) (hLen : ds.length ≤ 16) :
    ds.foldl crc16Bit c = 0#16 ↔ ∀ i < 16, bit c (15 - i) = ds.getD i false := by
  induction ds generalizing c with
  | nil =>
    constructor
    · rintro rfl i -
      exact bit_zero 16 _
    · intro h
      refine ext_bit fun i hi => ?_
      have hBit := h (15 - i) (by omega)
      rw [Nat.sub_sub_self (by omega)] at hBit
      exact hBit.trans (bit_zero 16 i).symm
  | cons d ds ih =>
    have hLen' : ds.length ≤ 15 := Nat.le_of_succ_le_succ hLen
    have hLast : ds.getD 15 false = false := List.getD_eq_default _ _ hLen'
    rw [List.foldl_cons, ih _ (by omega)]
    by_cases hTop : bit c 15 = d
    · rw [crc16Bit_of_eq hTop]
      constructor
      · intro h i hi
        cases i with
        | zero => exact hTop
        | succ i => exact (bit_shiftLeft_one c (by omega)).symm.trans (h i (by omega))
      · intro h i hi
        obtain hlt | rfl : i < 15 ∨ i = 15 := by omega
        · exact (bit_shiftLeft_one c hlt).trans (h (i + 1) (by omega))
        · rw [hLast]
          simp [bit]
    · constructor
      · intro h
        have hLow := h 15 (by decide)
        rw [hLast, Nat.sub_self, bit_crc16Bit_of_ne hTop] at hLow
        contradiction
      · exact fun h => absurd (h 0 (by decide)) hTop

/-- The bits of a byte in the order the CRC takes them. -/
def msbFirst (d : Byte) : List Bool := [7, 6, 5, 4, 3, 2, 1, 0].map (bit d)

theorem crc16Update_eq_foldl (c : BitVec 16) (d : Byte) : crc16Update c d = (msbFirst d).foldl crc16Bit c := rfl

theorem getD_msbFirst_append (d d' : Byte) {i : Nat} (h : i < 16) :
    (msbFirst d ++ msbFirst d').getD i false = bit (cat 16 d d') (15 - i) := by
  interval_cases i <;> simp [msbFirst, bit_cat]

/-- Two bytes fed to an accumulator leave 0 exactly when they are its own two bytes, the high one first. -/
theorem crc16Update_crc16Update_eq_zero_iff (c : BitVec 16) (d d' : Byte) :
    crc16Update (crc16Update c d) d' = 0#16 ↔ d = field c 8 8 ∧ d' = field c 0 8 := by
  rw [crc16Update_eq_foldl, crc16Update_eq_foldl, ← List.foldl_append, foldl_crc16Bit_eq_zero_iff _ _ (by rfl)]
  constructor
  · intro h
    have hc : c = cat 16 d d' := ext_bit fun i hi => by
      have hBit := h (15 - i) (by omega)
      rwa [getD_msbFirst_append d d' (by omega), Nat.sub_sub_self (by omega)] at hBit
    simp [hc, field_cat_high, field_cat_low]
  · rintro ⟨rfl, rfl⟩ i hi
    rw [getD_msbFirst_append _ _ hi, cat_field_split c 8]

theorem rev8_involutive : Function.Involutive rev8 := rev8_rev8

end Sys2Proof.Machine

section
open Sys2Proof Sys2Proof.Machine

/-- Settles O32: two bytes fed to the payload's CRC leave 0 exactly when they are its own
(`crc16Update_crc16Update_eq_zero_iff`), and reversing a byte's bits twice gives it back. -/
theorem crcResidueIsZero : Obligations.CrcResidueIsZero := by
  unfold Obligations.CrcResidueIsZero
  intro payload c1 c2
  rw [List.foldl_append]
  calc crc16Update (crc16Update (crcOf payload) (rev8 c1)) (rev8 c2) = 0#16
      ↔ rev8 c1 = field (crcOf payload) 8 8 ∧ rev8 c2 = field (crcOf payload) 0 8 :=
        crc16Update_crc16Update_eq_zero_iff _ _ _
    _ ↔ c1 = rev8 (field (crcOf payload) 8 8) ∧ c2 = rev8 (field (crcOf payload) 0 8) :=
        and_congr (rev8_involutive.eq_iff) (rev8_involutive.eq_iff)

end

/-! ### O13 to O21: the commands and the control line -/

namespace Sys2Proof.Machine

/-! ### Answers, operation by operation

`Answers (.next t) u f` describes `t` by `u` and the bytes `f`. Each lemma below says how one more operation moves the description,
so that what a rule does is described by following its operations. An operation that reads registers asks that `f` has there what
`u` has. -/

section
variable {t u : State} {f : Nat → Byte}

/-- The described state is `u` over some Register File. -/
theorem Answers.exists_regFile (h : Answers (.next t) u f) :
    ∃ m, t = { u with regFile := m } ∧ ∀ a, readMem m u.resets a = f a := by
  obtain ⟨_, ⟨⟩, ht, hf⟩ := h
  refine ⟨t.regFile, ht, fun a => ?_⟩
  rw [← hf a, ht]
  rfl

theorem Answers.of_regFile {g : Nat → Byte} (ht : t = { u with regFile := t.regFile }) (hf : ∀ a, t.reg a = g a) :
    Answers (.next t) u g := ⟨t, rfl, ht, hf⟩

/-- The bytes may be described otherwise. -/
theorem Answers.congr_regs {r : Result} {g : Nat → Byte} (h : Answers r u f) (hg : ∀ a, f a = g a) : Answers r u g := by
  rwa [show g = f from funext fun a => (hg a).symm]

/-- So may the rest of the state. -/
theorem Answers.congr_state {r : Result} {u' : State} (h : Answers r u f) (hu : u = { u' with regFile := u.regFile }) :
    Answers r u' f := by
  obtain ⟨t, rfl, ht, hf⟩ := h
  exact ⟨t, rfl, by rw [ht, hu], hf⟩

theorem Answers.reg_eq (h : Answers (.next t) u f) (a : Nat) : t.reg a = f a := by
  obtain ⟨_, ⟨⟩, -, hf⟩ := h
  exact hf a

theorem Answers.opState_eq (h : Answers (.next t) u f) : t.opState = u.opState := by
  obtain ⟨m, rfl, -⟩ := h.exists_regFile
  rfl

/-- An operation that neither reads nor writes a register acts on the description alone. -/
theorem Answers.map (h : Answers (.next t) u f) (op : State → State)
    (hOp : ∀ m, op { u with regFile := m } = { op u with regFile := m } := by intro; rfl)
    (hResets : (op u).resets = u.resets := by rfl) : Answers (.next (op t)) (op u) f := by
  obtain ⟨m, rfl, hf⟩ := h.exists_regFile
  rw [hOp]
  refine .of_regFile rfl fun a => ?_
  rw [← hf, ← hResets]
  rfl

theorem Answers.diag (h : Answers (.next t) u f) (d : Diag) :
    Answers (.next (t.diag d)) { u with outputs := u.outputs ++ [.diag d] } f := h.map (State.diag · d)

theorem Answers.cancel (h : Answers (.next t) u f) (e : Event) : Answers (.next (t.cancel e)) (u.cancel e) f :=
  h.map (State.cancel · e)

theorem Answers.abortSequence (h : Answers (.next t) u f) : Answers (.next t.abortSequence) u.abortSequence f :=
  h.map State.abortSequence

theorem Answers.stopTx (h : Answers (.next t) u f) : Answers (.next t.stopTx) u.stopTx f :=
  h.map State.stopTx (fun m => by unfold State.stopTx; split <;> rfl) (stopTx_resets u)

theorem Answers.stopRx (h : Answers (.next t) u f) : Answers (.next t.stopRx) u.stopRx f :=
  h.map State.stopRx (fun m => by unfold State.stopRx; split <;> rfl) (stopRx_resets u)

theorem Answers.setReg (h : Answers (.next t) u f) (a : Nat) (v : Byte) :
    Answers (.next (t.setReg a v)) u (fun b => if b = a then v else f b) := by
  obtain ⟨m, rfl, hf⟩ := h.exists_regFile
  exact .of_regFile rfl fun b => by simp [hf]

/-- `setState` (41_commands.md R160). -/
theorem Answers.setState (h : Answers (.next t) u f) (x : OpState) :
    Answers (.next (t.setState x)) (u.entering x (powerIndex x (field (f Addr.phyTxPwr) 0 4)))
      (withStatus f (x.code.setWidth 8)) := by
  have hReg := h.reg_eq
  obtain ⟨m, rfl, -⟩ := h.exists_regFile
  refine .of_regFile ?_ fun a => ?_
  · rw [← hReg]
    rfl
  · rw [setState_reg, low5_eq, withStatus, hReg, hReg]
    exact ite_congr rfl (fun ha => by rw [ha]) fun _ => rfl

/-- `post` (60_exceptions.md R365). -/
theorem Answers.post (h : Answers (.next t) u f) (l : IrqLine) (hMask : f Addr.irqMask = u.reg Addr.irqMask)
    (hStatus : f Addr.irqStatus = u.reg Addr.irqStatus) :
    Answers (.next (t.post l)) { u with outputs := u.outputs ++ u.rise l } (posted f (1#8 <<< l.bitNo)) := by
  have hReg := h.reg_eq
  have hRise : t.rise l = u.rise l := by rw [State.rise, State.rise, hReg, hReg, hMask, hStatus]
  obtain ⟨m, rfl, -⟩ := h.exists_regFile
  refine .of_regFile (like_of_fields ?_) fun a => ?_
  · rw [post_outputs_rise, hRise]
    simp
  · rw [post_reg, posted, hReg, hReg]
    exact ite_congr rfl (fun ha => by rw [ha]) fun _ => rfl

/-- `startRx` (43_receiver.md R240). -/
theorem Answers.startRx (h : Answers (.next t) u f) (hChannel : f Addr.phyCcCca = u.reg Addr.phyCcCca) :
    Answers (.next t.startRx) u.startRx f := by
  have hReg := h.reg_eq
  have hFreq : t.channel = u.channel := by rw [State.channel, State.channel, hReg, hChannel]
  obtain ⟨m, rfl, -⟩ := h.exists_regFile
  refine .of_regFile ?_ fun a => by rw [startRx_reg, hReg]
  unfold State.startRx
  rw [hFreq]
  split <;> rfl

/-- The stop of both units in a mode command (41_commands.md R165). -/
theorem Answers.unitsStopped (h : Answers (.next t) u f) (x : OpState) :
    Answers (.next (t.abortSequence.stopTx.stopRx.setState x))
      (u.stoppedInto x (powerIndex x (field (f Addr.phyTxPwr) 0 4)) .txAlreadyStopped .rxAlreadyStopped)
      (withStatus f (x.code.setWidth 8)) := by
  refine (h.abortSequence.stopTx.stopRx.setState x).congr_state (like_of_fields ?_)
  cases hTx : u.tx.active <;> simp [State.stoppedInto, State.entering, hTx]

/-- The start of the Receiver in a mode command (R167). -/
theorem Answers.listening (h : Answers (.next t) u f) {x : OpState} (hx : x = .rxOn ∨ x = .rxAackOn)
    (hChannel : f Addr.phyCcCca = u.reg Addr.phyCcCca) :
    Answers (.next (t.abortSequence.stopTx.startRx.setState x)) (u.listeningIn x .txAlreadyStopped .rxAlreadyStarted)
      (withStatus f (x.code.setWidth 8)) := by
  have hPower (p : BitVec 4) : powerIndex x p = 3 := by obtain rfl | rfl := hx <;> rfl
  have hStarted := h.abortSequence.stopTx.startRx (by simpa using hChannel)
  refine (hStarted.setState x).congr_state (like_of_fields ?_)
  cases hTx : u.tx.active <;> simp [State.listeningIn, State.entering, State.channel, hPower, hTx]

/-- `f` has what `u` has where a start of the Transmitter or of a sequence reads (42_transmitter.md R200, 45_csma_ack.md R327). -/
structure SameConfig (u : State) (f : Nat → Byte) : Prop where
  power : f Addr.phyTxPwr = u.reg Addr.phyTxPwr := by rfl
  channel : f Addr.phyCcCca = u.reg Addr.phyCcCca := by rfl
  retries : f Addr.xahCtrl0 = u.reg Addr.xahCtrl0 := by rfl

/-- `startTx(DATA)` of a stopped Transmitter (R200). -/
theorem Answers.startData (h : Answers (.next t) u f) (hTx : u.tx.active = false) (hf : SameConfig u f) :
    Answers (.next (t.startTx .data)) { u with tx := u.freshTx false, outputs := u.outputs ++ [u.beginOutput] } f := by
  have hReg := h.reg_eq
  obtain ⟨m, rfl, -⟩ := h.exists_regFile
  refine .of_regFile ?_ fun a => by rw [startTx_reg, hReg]
  simp [State.startTx, hTx, State.txPwr, State.channel, hReg, hf.power, hf.channel, State.freshTx, State.beginOutput, Params.lead]

/-- `setState(BUSY_TX); startTx(DATA)` (41_commands.md R164). -/
theorem Answers.startFrame (h : Answers (.next t) u f) (hTx : u.tx.active = false) (hf : SameConfig u f) :
    Answers (.next ((t.setState .busyTx).startTx .data)) u.frameStarted (withStatus f 0x02#8) := by
  have hEntered := h.setState .busyTx
  rw [hf.power] at hEntered
  refine (hEntered.startData hTx ⟨hf.power, hf.channel, hf.retries⟩).congr_state (like_of_fields ?_)
  simp [State.entering, State.frameStarted, powerIndex, State.freshTx, State.beginOutput]

/-- `csmaStartOrTx()` without CSMA (45_csma_ack.md R328). -/
theorem csmaStartOrTx_direct {s : State} (h : s.csmaRetries = Config.noCsma) : s.csmaStartOrTx = s.startTx .data := if_pos h

/-- `csmaStartOrTx()` with a CCA first. -/
theorem csmaStartOrTx_contends {s : State} (h : s.csmaRetries ≠ Config.noCsma) :
    s.csmaStartOrTx = State.schedule { s.popEnergy with ccaStartEnergy := s.energyDraw } .ccaDelay s.params.tCca := if_neg h

/-- `csmaStartOrTx()`, the retries being set before (R328). -/
theorem Answers.csmaStartOrTx (h : Answers (.next t) u f) (hTx : u.tx.active = false) (hf : SameConfig u f) :
    Answers (.next (State.csmaStartOrTx { t with csmaRetries := t.maxCsmaRetries })) u.csmaBegun f := by
  have hRetries : t.maxCsmaRetries = field (u.reg Addr.xahCtrl0) 1 3 := by rw [State.maxCsmaRetries, h.reg_eq, hf.retries]
  have hSet := h.map fun s => { s with csmaRetries := field (u.reg Addr.xahCtrl0) 1 3 }
  rw [hRetries, State.csmaBegun]
  split_ifs with hNone
  · rw [csmaStartOrTx_direct hNone]
    exact (hSet.startData hTx ⟨hf.power, hf.channel, hf.retries⟩).congr_state (by rw [hNone]; rfl)
  · rw [csmaStartOrTx_contends hNone]
    exact hSet.map fun s => State.schedule { s.popEnergy with ccaStartEnergy := s.energyDraw } .ccaDelay s.params.tCca

/-- `beginAret()` (R327). -/
theorem Answers.beginAret (h : Answers (.next t) u f) (hTx : u.tx.active = false) (hf : SameConfig u f) :
    Answers (.next t.beginAret) u.aretBegun (withStatus f 0x12#8) := by
  have hEntered := h.setState .busyTxAret
  rw [hf.power] at hEntered
  have hRetries : (t.setState .busyTxAret).maxFrameRetries = field (u.reg Addr.xahCtrl0) 4 4 := by
    rw [State.maxFrameRetries, hEntered.reg_eq, ← hf.retries]
    rfl
  have hSet := hEntered.map fun s =>
    { s with aretActive := true, awaitingAck := false, frameRetries := field (u.reg Addr.xahCtrl0) 4 4 }
  rw [State.beginAret, hRetries]
  exact hSet.csmaStartOrTx hTx ⟨hf.power, hf.channel, hf.retries⟩

end

/-! ### The commands (41_commands.md R161 to R175) -/

section
variable {s t u : State} {f : Nat → Byte}

/-- Any state describes itself. -/
theorem answers_self (s : State) : Answers (.next s) s s.reg := .of_regFile rfl fun _ => rfl

/-- A write of TRX_STATE stores its code first (20_memory.md R83, 10_state.md R26). -/
theorem commandStored_answers (s : State) (c : BitVec 5) :
    Answers (.next (s.setReg Addr.trxState (cat 8 (field (s.reg Addr.trxState) 5 3) c))) s (s.cmdStored (c.setWidth 8)) := by
  refine ((answers_self s).setReg _ _).congr_regs fun a => ?_
  rw [low5_eq]
  exact ite_congr rfl (fun ha => by rw [ha]) fun _ => rfl

/-! The gate of R161. -/

theorem applyCommand_of_gated (h : s.opState = .sleep ∨ s.opState = .transition) (c : Command) :
    s.applyCommand c = s.diag (.commandIgnored s.opState) := if_pos h

theorem applyCommand_of_off (h : s.opState = .off) (c : Command) : s.applyCommand c = s.commandInOff c := by
  simp [State.applyCommand, h]

theorem applyCommand_of_running (h1 : s.opState ≠ .off) (h2 : s.opState ≠ .sleep) (h3 : s.opState ≠ .transition)
    (c : Command) : s.applyCommand c = s.runCommand c := by
  simp [State.applyCommand, h1, h2, h3]

/-! The entries of R173's table. -/

/-- The codes of the commands; every other code is invalid (30_encoding.md R120, R121). -/
theorem command_cases (c : BitVec 5) :
    c = 0x00#5 ∨ c = 0x02#5 ∨ c = 0x03#5 ∨ c = 0x04#5 ∨ c = 0x06#5 ∨ c = 0x08#5 ∨ c = 0x09#5 ∨ c = 0x16#5 ∨ c = 0x19#5 ∨
      commandOfCode c = .invalid c := by
  revert c
  decide

theorem commandCell_of_invalid {c : BitVec 5} (x : OpState) (h : commandOfCode c = .invalid c) :
    commandCell x c = .diagnosed := by
  revert c
  cases x <;> decide

theorem commandCell_of_gated {x : OpState} (c : BitVec 5) (h : x = .sleep ∨ x = .transition) :
    commandCell x c = .diagnosed := by
  obtain rfl | rfl := h <;> rfl

theorem commandCell_nop {x : OpState} (h2 : x ≠ .sleep) (h3 : x ≠ .transition) : commandCell x 0x00#5 = .silent := by
  cases x <;> simp_all [commandCell, busyRowCell]

theorem commandCell_of_running {x : OpState} {c : BitVec 5} (h1 : x ≠ .off) (h2 : x ≠ .sleep) (h3 : x ≠ .transition)
    (hc : c = 0x02#5 → x ≠ .pllOn ∧ x ≠ .txAretOn) : commandCell x c = busyRowCell c := by
  cases x <;> simp_all [commandCell]

theorem commandCell_txStart_ignored {x : OpState} (h : x ≠ .pllOn) (h' : x ≠ .txAretOn) :
    commandCell x 0x02#5 = .diagnosed := by
  cases x <;> simp_all [commandCell, busyRowCell]

/-- The way out of OFF: no unit is stopped. -/
theorem Answers.leaveOff (h : Answers (.next t) u f) (hOff : u.opState = .off) :
    CommandCell.leaveOff.Holds (.next (t.setState .trxOff)) u f := by
  have hEntered := h.setState .trxOff
  rwa [State.entering, hOff] at hEntered

/-- OFF's row of the table. -/
theorem commandInOff_holds (h : Answers (.next t) u f) (hOff : u.opState = .off) (c : BitVec 5) :
    (commandCell .off c).Holds (.next (t.commandInOff (commandOfCode c))) u f := by
  obtain rfl | rfl | rfl | rfl | rfl | rfl | rfl | rfl | rfl | hInvalid := command_cases c
  · exact h
  · exact ⟨_, h.diag _⟩
  · exact h.leaveOff hOff
  · exact ⟨_, h.diag _⟩
  · exact ⟨_, h.diag _⟩
  · exact h.leaveOff hOff
  · exact ⟨_, h.diag _⟩
  · exact ⟨_, h.diag _⟩
  · exact ⟨_, h.diag _⟩
  · rw [commandCell_of_invalid _ hInvalid, hInvalid]
    exact ⟨_, h.diag _⟩

/-- TX_START where it starts nothing (R164). -/
theorem cmdTxStart_ignored (h : s.opState ≠ .pllOn ∧ s.opState ≠ .txAretOn) :
    s.cmdTxStart = s.diag (.txStartIgnored s.opState) := by
  simp [State.cmdTxStart, h]

/-- The row of the BUSY and receive states. -/
theorem runCommand_holds (h : Answers (.next t) u f) (hChannel : f Addr.phyCcCca = u.reg Addr.phyCcCca) (c : BitVec 5)
    (hc : c = 0x02#5 → u.opState ≠ .pllOn ∧ u.opState ≠ .txAretOn) :
    (busyRowCell c).Holds (.next (t.runCommand (commandOfCode c))) u f := by
  obtain rfl | rfl | rfl | rfl | rfl | rfl | rfl | rfl | rfl | hInvalid := command_cases c
  · exact h
  · have hDiag : t.runCommand .txStart = t.diag _ := cmdTxStart_ignored (h.opState_eq ▸ hc rfl)
    exact ⟨_, hDiag ▸ h.diag _⟩
  · exact ⟨_, _, h.unitsStopped .trxOff⟩
  · exact ⟨_, _, h.unitsStopped .pllOn⟩
  · exact ⟨_, _, h.listening (.inl rfl) hChannel⟩
  · exact ⟨_, _, h.unitsStopped .trxOff⟩
  · exact ⟨_, _, h.unitsStopped .pllOn⟩
  · exact ⟨_, _, h.listening (.inr rfl) hChannel⟩
  · exact ⟨_, _, h.unitsStopped .txAretOn⟩
  · have hCell : busyRowCell c = .diagnosed := commandCell_of_invalid .trxOff hInvalid
    rw [hCell, hInvalid]
    exact ⟨_, h.diag _⟩

/-- TX_START where it starts a frame or a sequence, the Transmitter being stopped (R164). -/
theorem cmdTxStart_holds (h : Answers (.next t) u f) (hf : SameConfig u f) (hTx : u.tx.active = false)
    (hS : u.opState = .pllOn ∨ u.opState = .txAretOn) :
    (commandCell u.opState 0x02#5).Holds (.next t.cmdTxStart) u f := by
  obtain hS | hS := hS
  · have hStart : t.cmdTxStart = (t.setState .busyTx).startTx .data := by simp [State.cmdTxStart, h.opState_eq, hS]
    rw [hS, hStart]
    exact h.startFrame hTx hf
  · have hStart : t.cmdTxStart = t.beginAret := by simp [State.cmdTxStart, h.opState_eq, hS]
    rw [hS, hStart]
    exact h.beginAret hTx hf

/-- The table, the Transmitter being stopped where the code starts it. -/
theorem applyCommand_holds (h : Answers (.next t) u f) (hf : SameConfig u f) (c : BitVec 5)
    (hTx : c = 0x02#5 → u.opState = .pllOn ∨ u.opState = .txAretOn → u.tx.active = false) :
    (commandCell u.opState c).Holds (.next (t.applyCommand (commandOfCode c))) u f := by
  have hState := h.opState_eq
  by_cases hGated : u.opState = .sleep ∨ u.opState = .transition
  · rw [commandCell_of_gated c hGated, applyCommand_of_gated (by rwa [hState])]
    exact ⟨_, h.diag _⟩
  by_cases hOff : u.opState = .off
  · rw [applyCommand_of_off (by rwa [hState]), hOff]
    exact commandInOff_holds h hOff c
  obtain ⟨hSleep, hTransition⟩ := not_or.mp hGated
  rw [applyCommand_of_running (by rwa [hState]) (by rwa [hState]) (by rwa [hState])]
  by_cases hStart : c = 0x02#5 ∧ (u.opState = .pllOn ∨ u.opState = .txAretOn)
  · obtain ⟨rfl, hS⟩ := hStart
    exact cmdTxStart_holds h hf (hTx rfl hS) hS
  · have hc : c = 0x02#5 → u.opState ≠ .pllOn ∧ u.opState ≠ .txAretOn := by tauto
    rw [commandCell_of_running hOff hSleep hTransition hc]
    exact runCommand_holds h hf.channel c hc

/-- A write of TRX_STATE stores the code and does what the table says of it. -/
theorem writeTrxState_holds (s : State) (c : BitVec 5)
    (hTx : c = 0x02#5 → s.opState = .pllOn ∨ s.opState = .txAretOn → s.tx.active = false) :
    (commandCell s.opState c).Holds (.next (s.writeTrxState c)) s (s.cmdStored (c.setWidth 8)) :=
  applyCommand_holds (commandStored_answers s c) {} c hTx

/-- Outside OFF, SLEEP and TRANSITION a code other than TX_START's does what the row of the BUSY and receive states says. -/
theorem writeTrxState_holds_running (c : BitVec 5) (hc : c ≠ 0x02#5) (h1 : s.opState ≠ .off) (h2 : s.opState ≠ .sleep)
    (h3 : s.opState ≠ .transition) :
    (busyRowCell c).Holds (.next (s.writeTrxState c)) s (s.cmdStored (c.setWidth 8)) := by
  rw [← commandCell_of_running h1 h2 h3 (absurd · hc)]
  exact writeTrxState_holds s c (absurd · hc)

/-- In the two states TX_START starts something in the Transmitter is stopped (10_state.md R59). -/
theorem tx_stopped_of_ready (h : s.Sequenced) (hS : s.opState = .pllOn ∨ s.opState = .txAretOn) : s.tx.active = false := by
  obtain hS | hS := hS <;> exact Sequenced_tx_stopped s h (by simp [hS]) (by simp [hS]) (by simp [hS])

/-- The rows of the invalid codes, by the decoder. -/
theorem invalidCommandRows_decode {i : Instr} {v : Byte} (h : (i, v) ∈ invalidCommandRows) :
    i = decodeCommand (v.setWidth 5) ∧ commandOfCode (v.setWidth 5) = .invalid (v.setWidth 5) ∧
      (v.setWidth 5).setWidth 8 = v :=
  (by decide : ∀ r ∈ invalidCommandRows, r.1 = decodeCommand (r.2.setWidth 5) ∧
    commandOfCode (r.2.setWidth 5) = .invalid (r.2.setWidth 5) ∧ (r.2.setWidth 5).setWidth 8 = r.2) (i, v) h

/-! The manual CCA request (R175). -/

/-- A request stores mode and channel first (20_memory.md R83, 10_state.md R30). -/
theorem ccaStored_answers (s : State) (m : BitVec 2) (c : BitVec 5) :
    Answers (.next (s.setReg Addr.phyCcCca (cat 8 0#1 (cat 7 m c)))) s (s.ccaStored m c) := by
  rw [ccCca_eq]
  exact setReg_answers s _ _

/-- In a state that takes it, the request clears CCA_DONE, draws the start sample and schedules the completion. -/
theorem Answers.manualCca (h : Answers (.next t) u f) (h1 : u.opState ≠ .off) (h2 : u.opState ≠ .sleep)
    (h3 : u.opState ≠ .transition) :
    Answers (.next (t.applyCommand .manualCca)) u.ccaRequested (fun a => if a = Addr.trxStatus then f a &&& 0x7F#8 else f a) := by
  have hState := h.opState_eq
  rw [applyCommand_of_running (by rwa [hState]) (by rwa [hState]) (by rwa [hState])]
  have hCleared := h.setReg Addr.trxStatus (cat 8 0#1 (field (t.reg Addr.trxStatus) 0 7))
  have hDrawn := hCleared.map fun s =>
    State.schedule { s.popEnergy with ccaStartEnergy := s.energyDraw } .ccaDelay s.params.tCcaManual
  refine hDrawn.congr_regs fun a => ?_
  rw [clear7_eq, h.reg_eq]
  exact ite_congr rfl (fun ha => by rw [ha]) fun _ => rfl

theorem Answers.manualCca_ignored (h : Answers (.next t) u f)
    (hS : u.opState = .off ∨ u.opState = .sleep ∨ u.opState = .transition) :
    ∃ d, Answers (.next (t.applyCommand .manualCca)) { u with outputs := u.outputs ++ [.diag d] } f := by
  rw [← h.opState_eq] at hS
  obtain hOff | hGated := hS
  · rw [applyCommand_of_off hOff]
    exact ⟨_, h.diag _⟩
  · rw [applyCommand_of_gated hGated]
    exact ⟨_, h.diag _⟩

theorem exec_cca_ignored (s : State) (m : BitVec 2) (c : BitVec 5)
    (h : s.opState = .off ∨ s.opState = .sleep ∨ s.opState = .transition) :
    ∃ d, Answers (exec (.cca m c) s) { s with outputs := s.outputs ++ [.diag d] } (s.ccaStored m c) :=
  (ccaStored_answers s m c).manualCca_ignored h

/-- CCA_DONE is cleared in another register than the one the request writes. -/
theorem ccaRequestedRegs_eq (s : State) (m : BitVec 2) (c : BitVec 5) (a : Nat) :
    (if a = Addr.trxStatus then s.ccaStored m c a &&& 0x7F#8 else s.ccaStored m c a) = s.ccaRequestedRegs m c a :=
  ite_congr rfl (fun ha => by rw [ha]; rfl) fun _ => rfl

theorem exec_cca_answers (s : State) (m : BitVec 2) (c : BitVec 5) (h1 : s.opState ≠ .off) (h2 : s.opState ≠ .sleep)
    (h3 : s.opState ≠ .transition) : Answers (exec (.cca m c) s) s.ccaRequested (s.ccaRequestedRegs m c) :=
  ((ccaStored_answers s m c).manualCca h1 h2 h3).congr_regs (ccaRequestedRegs_eq s m c)

end

/-! ### The control line (41_commands.md R180 to R187) -/

section
variable {s t u : State} {f : Nat → Byte} {i : Instr} {v : Byte}

/-- An edge stores the byte and sets the level first (R180, 20_memory.md R83, log 15). -/
theorem trxprStored_answers (s : State) (v : Byte) (level : Bool) :
    Answers (.next { s.setReg Addr.trxpr v with pinLevel := level }) { s with pinLevel := level } (s.trxprStored v) :=
  (setReg_answers s Addr.trxpr v).map fun s => { s with pinLevel := level }

/-- A PIN input that is an edge. -/
theorem pinInput_edge (s : State) (raised : Bool) (h : s.pinLevel = !raised) :
    s.pinInput raised =
      State.pinTransition
        { s.setReg Addr.trxpr (if raised then s.reg Addr.trxpr ||| 0x02#8 else s.reg Addr.trxpr &&& 0xFD#8) with
          pinLevel := raised } raised := by
  rw [← bit1_eq]
  exact if_neg (by simp [h])

/-- A write of TRXPR that is an edge. -/
theorem writeTrxpr_edge (s : State) (u : BitVec 6) (raised : Bool) (h : bit (s.reg Addr.trxpr) 1 = !raised) :
    s.writeTrxpr u raised =
      State.pinTransition
        { s.setReg Addr.trxpr ((u.setWidth 8 <<< 2) ||| (if raised then 0x02#8 else 0#8)) with pinLevel := raised } raised := by
  rw [← trxpr_eq]
  exact if_neg (by simp [h])

/-- Either input that is a rising edge runs it on the state with the byte stored and the level set. -/
theorem exec_rising (h : RisingInput i s v) :
    ∃ t, exec i s = .next t.risingEdge ∧ Answers (.next t) { s with pinLevel := true } (s.trxprStored v) := by
  obtain ⟨rfl, hLevel, rfl⟩ | ⟨u, rfl, hOld, rfl⟩ := h
  · exact ⟨_, congrArg Host.Outcome.next (pinInput_edge s true hLevel), trxprStored_answers s _ true⟩
  · exact ⟨_, congrArg Host.Outcome.next (writeTrxpr_edge s u true hOld), trxprStored_answers s _ true⟩

/-- So for a falling edge. -/
theorem exec_falling (h : FallingInput i s v) :
    ∃ t, exec i s = .next t.fallingEdge ∧ Answers (.next t) { s with pinLevel := false } (s.trxprStored v) := by
  obtain ⟨rfl, hLevel, rfl⟩ | ⟨u, rfl, hOld, rfl⟩ := h
  · exact ⟨_, congrArg Host.Outcome.next (pinInput_edge s false hLevel), trxprStored_answers s _ false⟩
  · refine ⟨_, congrArg Host.Outcome.next (writeTrxpr_edge s u false hOld), ?_⟩
    rw [if_neg Bool.false_ne_true, BitVec.or_zero]
    exact trxprStored_answers s _ false

theorem pinInput_noEdge {raised : Bool} (h : s.pinLevel = raised) : s.pinInput raised = s.diag .noEdge := if_pos h.symm

theorem writeTrxpr_noEdge (u : BitVec 6) {level : Bool} (h : bit (s.reg Addr.trxpr) 1 = level) :
    s.writeTrxpr u level =
      { s.setReg Addr.trxpr ((u.setWidth 8 <<< 2) ||| (if level then 0x02#8 else 0#8)) with pinLevel := level } := by
  rw [← trxpr_eq]
  exact if_pos h.symm

/-! The edges, state by state (R181 to R187). -/

theorem risingEdge_trxOff (h : s.opState = .trxOff) : s.risingEdge = s.enterSleep := if_pos h

theorem risingEdge_pllOn (h : s.opState = .pllOn) : s.risingEdge = (s.setState .busyTx).startTx .data := by
  simp [State.risingEdge, h]

theorem risingEdge_txAretOn (h : s.opState = .txAretOn) : s.risingEdge = s.beginAret := by
  simp [State.risingEdge, h]

theorem risingEdge_ignored (h1 : s.opState ≠ .trxOff) (h2 : s.opState ≠ .pllOn) (h3 : s.opState ≠ .txAretOn) :
    s.risingEdge = s.diag (.risingEdgeIgnored s.opState) := by
  simp [State.risingEdge, h1, h2, h3]

theorem fallingEdge_sleep (h : s.opState = .sleep) :
    s.fallingEdge = (s.setState .transition).schedule .wakeup s.params.tWakeup := if_pos h

theorem fallingEdge_awake (h : s.opState ≠ .sleep) : s.fallingEdge = s := if_neg h

theorem onWakeup_transition (h : s.opState = .transition) : s.onWakeup = (s.setState .trxOff).post .awake := if_pos h

theorem onWakeup_other (h : s.opState ≠ .transition) : s.onWakeup = s := if_neg h

/-- `enterSleep()` (R181). -/
theorem Answers.enterSleep (h : Answers (.next t) u f) :
    Answers (.next t.enterSleep) (u.entering .sleep 0)
      (withStatus (fun a => if a = Addr.phyEdLevel then 0xFF#8 else f a) 0x0F#8) := by
  have hSwap (a : Nat) : (if a = Addr.phyEdLevel then Config.edInvalid else withStatus f 0x0F#8 a) =
      withStatus (fun a => if a = Addr.phyEdLevel then 0xFF#8 else f a) 0x0F#8 a := by
    by_cases ha : a = Addr.phyEdLevel
    · rw [if_pos ha, ha]
      rfl
    · simp [withStatus, ha]
  exact ((h.setState .sleep).setReg _ _).congr_regs hSwap

/-- The wakeup that a falling edge begins in SLEEP (R185). -/
theorem Answers.wakeUp (h : Answers (.next t) u f) :
    Answers (.next ((t.setState .transition).schedule .wakeup t.params.tWakeup))
      ((u.entering .transition 1).schedule .wakeup u.params.tWakeup) (withStatus f 0x1F#8) :=
  (h.setState .transition).map fun s => s.schedule .wakeup s.params.tWakeup

/-- The level is no part of the start of a sequence. -/
theorem csmaBegun_setPinLevel (s : State) (level : Bool) :
    State.csmaBegun { s with pinLevel := level } = { s.csmaBegun with pinLevel := level } := by
  have hReg : State.reg { s with pinLevel := level } Addr.xahCtrl0 = s.reg Addr.xahCtrl0 := rfl
  rw [State.csmaBegun, State.csmaBegun, hReg]
  by_cases h : field (s.reg Addr.xahCtrl0) 1 3 = 7#3
  · rw [if_pos h, if_pos h]
    rfl
  · rw [if_neg h, if_neg h]
    rfl

theorem aretBegun_setPinLevel (s : State) (level : Bool) :
    State.aretBegun { s with pinLevel := level } = { s.aretBegun with pinLevel := level } := by
  unfold State.aretBegun
  dsimp only
  rw [← csmaBegun_setPinLevel]
  rfl

end

end Sys2Proof.Machine

section
open Sys2Proof Sys2Proof.Machine

/-- Settles O13: the commands' entries in the table (`writeTrxState_holds`), row by row. -/
theorem stoppingModeCommands : Obligations.StoppingModeCommands := by
  unfold Obligations.StoppingModeCommands
  refine ⟨fun i cmd x code p s hRow hOff hSleep hTransition => ?running, fun i cmd s hRow hOff => ?off⟩
  case running =>
    have hHolds (c : BitVec 5) (hc : c ≠ 0x02#5) := writeTrxState_holds_running c hc hOff hSleep hTransition
    simp only [List.mem_cons, Prod.mk.injEq, List.not_mem_nil, or_false] at hRow
    obtain ⟨rfl, rfl, rfl, rfl, rfl⟩ | ⟨rfl, rfl, rfl, rfl, rfl⟩ | ⟨rfl, rfl, rfl, rfl, rfl⟩ | ⟨rfl, rfl, rfl, rfl, rfl⟩ |
      ⟨rfl, rfl, rfl, rfl, rfl⟩ := hRow
    · exact hHolds 0x03#5 (by decide)
    · exact hHolds 0x04#5 (by decide)
    · exact hHolds 0x08#5 (by decide)
    · exact hHolds 0x09#5 (by decide)
    · exact hHolds 0x19#5 (by decide)
  case off =>
    have hHolds (c : BitVec 5) (hc : c ≠ 0x02#5) := writeTrxState_holds s c (absurd · hc)
    rw [State.entering]
    rw [hOff] at hHolds ⊢
    simp only [List.mem_cons, Prod.mk.injEq, List.not_mem_nil, or_false] at hRow
    obtain ⟨rfl, rfl⟩ | ⟨rfl, rfl⟩ := hRow
    · exact hHolds 0x03#5 (by decide)
    · exact hHolds 0x08#5 (by decide)

/-- Settles O14, likewise. -/
theorem listeningModeCommands : Obligations.ListeningModeCommands := by
  unfold Obligations.ListeningModeCommands
  intro i cmd x code s hRow hOff hSleep hTransition
  have hHolds (c : BitVec 5) (hc : c ≠ 0x02#5) := writeTrxState_holds_running c hc hOff hSleep hTransition
  simp only [List.mem_cons, Prod.mk.injEq, List.not_mem_nil, or_false] at hRow
  obtain ⟨rfl, rfl, rfl, rfl⟩ | ⟨rfl, rfl, rfl, rfl⟩ := hRow
  · exact hHolds 0x06#5 (by decide)
  · exact hHolds 0x16#5 (by decide)

/-- Settles O15: NOP's column of the table, and that every entry of an invalid code is a diagnostic. -/
theorem nopAndInvalidCommands : Obligations.NopAndInvalidCommands := by
  unfold Obligations.NopAndInvalidCommands
  have hNop (s : State) := writeTrxState_holds s 0x00#5 (absurd · (by decide))
  refine ⟨fun s hSleep hTransition => ?nop, fun s hGated => ?gated, fun i c s hRow => ?invalid⟩
  case nop =>
    have h := hNop s
    rwa [commandCell_nop hSleep hTransition] at h
  case gated =>
    have h := hNop s
    rwa [commandCell_of_gated _ hGated] at h
  case invalid =>
    obtain ⟨rfl, hInvalid, hCode⟩ := invalidCommandRows_decode hRow
    have h := writeTrxState_holds s (c.setWidth 5) (fun hc => by rw [hc] at hInvalid; contradiction)
    rw [commandCell_of_invalid _ hInvalid, hCode] at h
    rwa [exec_decodeCommand]

/-- Settles O16: TX_START's column of the table. -/
theorem txStartCommand : Obligations.TxStartCommand := by
  unfold Obligations.TxStartCommand
  intro s hSeq
  have h := writeTrxState_holds s 0x02#5 fun _ => tx_stopped_of_ready hSeq
  refine ⟨fun hPll => ?frame, fun hAret => ?sequence, fun hPll hAret => ?ignored⟩
  case frame => rwa [hPll] at h
  case sequence => rwa [hAret] at h
  case ignored => rwa [commandCell_txStart_ignored hPll hAret] at h

/-- Settles O17: the command's word decodes to its row (`decode_commandWord`), which does what the table says
(`writeTrxState_holds`); the last column is the manual CCA request. -/
theorem commandTableIsCovered : Obligations.CommandTableIsCovered := by
  unfold Obligations.CommandTableIsCovered
  refine fun s hSeq => ⟨fun c => ?command, fun m c => ?manualCca⟩
  case command =>
    rw [decode_commandWord, exec_decodeCommand]
    exact writeTrxState_holds s c fun _ => tx_stopped_of_ready hSeq
  case manualCca =>
    split_ifs with hS
    · exact exec_cca_ignored s m c hS
    · simp only [not_or] at hS
      obtain ⟨hOff, hSleep, hTransition⟩ := hS
      exact exec_cca_answers s m c hOff hSleep hTransition

/-- Settles O18: the request is the last column of the table. -/
theorem manualCcaRequest : Obligations.ManualCcaRequest := by
  unfold Obligations.ManualCcaRequest
  exact fun m c s => ⟨exec_cca_answers s m c, exec_cca_ignored s m c⟩

/-- Settles O19: either input stores its byte and runs the edge (`exec_rising`), whose branches are followed on that state. -/
theorem risingEdge : Obligations.RisingEdge := by
  unfold Obligations.RisingEdge
  intro i v s hSeq hInput
  obtain ⟨t, hExec, h⟩ := exec_rising hInput
  have hState : t.opState = s.opState := h.opState_eq
  have hTx (hS : s.opState = .pllOn ∨ s.opState = .txAretOn) := tx_stopped_of_ready hSeq hS
  rw [hExec]
  refine ⟨fun hTrxOff => ?sleep, fun hPll => ?frame, fun hAret => ?sequence, fun hTrxOff hPll hAret => ?ignored⟩
  case sleep =>
    rw [risingEdge_trxOff (hState.trans hTrxOff)]
    exact h.enterSleep
  case frame =>
    rw [risingEdge_pllOn (hState.trans hPll)]
    exact h.startFrame (hTx (.inl hPll)) {}
  case sequence =>
    rw [risingEdge_txAretOn (hState.trans hAret), ← aretBegun_setPinLevel]
    exact h.beginAret (hTx (.inr hAret)) {}
  case ignored =>
    rw [← hState] at hTrxOff hPll hAret
    rw [risingEdge_ignored hTrxOff hPll hAret]
    exact ⟨_, h.diag _⟩

/-- Settles O20: a falling edge as a rising one (`exec_falling`); an input at the present level by its own branch. -/
theorem fallingEdgeAndNoEdge : Obligations.FallingEdgeAndNoEdge := by
  unfold Obligations.FallingEdgeAndNoEdge
  refine ⟨fun i v s hInput => ?falling, fun i s hInput => ?pinNoEdge, fun u b s hSame => ?writeNoEdge⟩
  case falling =>
    obtain ⟨t, hExec, h⟩ := exec_falling hInput
    have hState : t.opState = s.opState := h.opState_eq
    rw [hExec]
    refine ⟨fun hSleep => ?wakes, fun hAwake => ?levelOnly⟩
    case wakes =>
      rw [fallingEdge_sleep (hState.trans hSleep)]
      exact h.wakeUp
    case levelOnly => rwa [fallingEdge_awake (hState ▸ hAwake)]
  case pinNoEdge =>
    obtain ⟨rfl, hLevel⟩ | ⟨rfl, hLevel⟩ := hInput <;>
      exact ⟨_, congrArg Host.Outcome.next (pinInput_noEdge hLevel)⟩
  case writeNoEdge =>
    have hExec : exec (.wrTrxprSlptr u b) s = .next _ := congrArg Host.Outcome.next (writeTrxpr_noEdge u hSame)
    rw [hExec]
    exact trxprStored_answers s _ b

/-- Settles O21: the firing clears the event, then runs the handler's branch. -/
theorem wakeupFires : Obligations.WakeupFires := by
  unfold Obligations.WakeupFires
  intro s hDue
  have hExec : exec .fireWakeup s = .next (s.cancel .wakeup).onWakeup := if_pos hDue
  have h := (answers_self s).cancel .wakeup
  rw [hExec]
  refine ⟨fun hTransition => ?wakes, fun hOther => ?nothing⟩
  case wakes =>
    rw [onWakeup_transition (h.opState_eq.trans hTransition), ← hTransition]
    exact (h.setState .trxOff).post .awake rfl rfl
  case nothing => rwa [onWakeup_other (h.opState_eq ▸ hOther)]

end

/-! ### O24 to O31: the Transmitter -/

namespace Sys2Proof.Machine

/-! ### A pull by the cursor (42_transmitter.md R202) -/

section
variable {s : State}

theorem pullActive_preamble (h : s.tx.st = .preamble) : s.pullActive = s.pullPreamble := by rw [State.pullActive, h]
theorem pullActive_sfd (h : s.tx.st = .sfd) : s.pullActive = s.pullSfd := by rw [State.pullActive, h]
theorem pullActive_length (h : s.tx.st = .length) : s.pullActive = s.pullLength := by rw [State.pullActive, h]
theorem pullActive_payload (h : s.tx.st = .payload) : s.pullActive = s.pullPayload := by rw [State.pullActive, h]
theorem pullActive_crcByte1 (h : s.tx.st = .crcByte1) : s.pullActive = s.pullCrc1 := by rw [State.pullActive, h]

/-- `s` after the last byte of its frame, before `txEnd()` (R206). -/
def State.lastByteSent (s : State) : State :=
  { s with tx := { s.tx with st := .ended }, outputs := s.outputs ++ [.txByte (rev8 (field s.tx.crc 0 8))] }

theorem pullActive_crcByte2 (h : s.tx.st = .crcByte2) : s.pullActive = s.lastByteSent.txEnd := by
  rw [State.pullActive, h]
  rfl

end

/-! ### What the pulls send -/

/-- A payload position inside the frame buffer names its byte there, or the auto-ACK's (R205, 30_encoding.md R138). -/
theorem payloadByteAt_eq (s : State) {p : Nat} (h : p < 128) :
    s.payloadByteAt p =
      if s.tx.isAck then (if p = 1 then 0x02#8 else if p = 2 then 0x00#8 else s.tx.ackSeq) else s.reg (0x180 + p) := by
  rw [State.payloadByteAt, fb_at s p h]
  rfl

theorem lengthToSend_eq (s : State) : s.lengthToSend = if s.tx.isAck then 5#8 else s.reg 0x180 &&& 0x7F#8 := rfl

theorem npay_eq (l : Byte) : npay l = l.toNat - 2 := by
  unfold npay
  split <;> omega

/-! ### The end of a frame (R207 to R210) -/

section
variable {s : State}

theorem txEnd_ack (h : s.tx.isAck = true) : s.txEnd = s.txEndAck := if_pos h

theorem txEnd_await (hKind : s.tx.isAck = false) (hReq : s.tx.ackReq = true) (hState : s.opState = .busyTxAret) :
    s.txEnd = s.txEndAwait := by
  simp [State.txEnd, hKind, hReq, hState]

theorem txEnd_done (hKind : s.tx.isAck = false) (h : s.tx.ackReq = false ∨ s.opState ≠ .busyTxAret) :
    s.txEnd = s.txEndDone := by
  have hNoWait : ¬ (s.tx.ackReq = true ∧ s.opState = .busyTxAret) := by
    rintro ⟨hReq, hState⟩
    simp [hReq, hState] at h
  simpa [State.txEnd, hKind] using fun hReq hState => absurd ⟨hReq, hState⟩ hNoWait

/-- Entering the ready state `x` of a stopped Transmitter, its sequence over, TRAC_STATUS SUCCESS, TX_END posted (R210). -/
def State.transmittedInto (s : State) (x : OpState) : State :=
  ((State.setState { s with aretActive := false } x).setTrac tracSuccess).post .txEnd

theorem txEndDone_extended (h : s.opState = .busyTxAret) : s.txEndDone = s.stopTx.transmittedInto .txAretOn := by
  simp [State.txEndDone, State.transmittedInto, h]

/-- In basic mode R210 writes no `aretActive`, which is off there (10_state.md R59). -/
theorem txEndDone_basic (h : s.opState ≠ .busyTxAret) (hAret : s.aretActive = false) :
    s.txEndDone = s.stopTx.transmittedInto .pllOn := by
  have hOff : { s.stopTx with aretActive := false } = s.stopTx := by rw [← hAret, ← stopTx_aretActive]
  rw [State.transmittedInto, hOff]
  simp [State.txEndDone, h]

theorem rx_stopped_of_sending (h : s.Sequenced) (hActive : s.tx.active = true) : s.rx.active = false := by
  obtain ⟨hRx, -⟩ := h
  by_contra hr
  simp [hRx (by simpa using hr)] at hActive

end

section
variable {t u : State} {f : Nat → Byte}

theorem rise_congr {l : IrqLine} (hMask : t.reg Addr.irqMask = u.reg Addr.irqMask)
    (hStatus : t.reg Addr.irqStatus = u.reg Addr.irqStatus) : t.rise l = u.rise l := by
  rw [State.rise, State.rise, hMask, hStatus]

/-- `reg[TRX_STATE][7:5] <- c` (10_state.md R26). -/
theorem Answers.setTrac (h : Answers (.next t) u f) (c : BitVec 3) :
    Answers (.next (t.setTrac c)) u
      (fun a => if a = Addr.trxState then (f a &&& 0x1F#8) ||| (c.setWidth 8 <<< 5) else f a) := by
  refine (h.setReg Addr.trxState _).congr_regs fun a => ?_
  rw [high3_eq, h.reg_eq]
  exact ite_congr rfl (fun ha => by rw [ha]) fun _ => rfl

/-- The end of an auto-ACK (R208). -/
theorem Answers.txEndAck (h : Answers (.next t) u f) (hChannel : f Addr.phyCcCca = u.reg Addr.phyCcCca) :
    Answers (.next t.txEndAck) (u.stopTx.startRx.entering .rxAackOn 3) (withStatus f 0x16#8) :=
  (h.stopTx.startRx (by simpa using hChannel)).setState .rxAackOn

/-- The end of an extended-mode data frame that asked for an ACK (R209). -/
theorem Answers.txEndAwait (h : Answers (.next t) u f) (hChannel : f Addr.phyCcCca = u.reg Addr.phyCcCca) :
    Answers (.next t.txEndAwait) u.txEndAwait f :=
  have hScheduled := h.map fun s =>
    State.schedule { s with awaitingAck := true, rx := { s.rx with seqOk := false } } .ackTimeout s.params.tAckWait
  hScheduled.stopTx.startRx (by simpa using hChannel)

/-- Any other end (R210). -/
theorem Answers.transmittedInto (h : Answers (.next t) u f) {x : OpState} (hx : x = .pllOn ∨ x = .txAretOn)
    (hMask : f Addr.irqMask = u.reg Addr.irqMask) (hStatus : f Addr.irqStatus = u.reg Addr.irqStatus) :
    Answers (.next (t.transmittedInto x))
      { u.entering x 2 with aretActive := false, outputs := (u.entering x 2).outputs ++ u.rise .txEnd }
      (fun a =>
        if a = Addr.trxState then f a &&& 0x1F#8
        else if a = Addr.trxStatus then (f a &&& 0xE0#8) ||| x.code.setWidth 8
        else if a = Addr.irqStatus then f a ||| 0x40#8
        else f a) := by
  have hPower (p : BitVec 4) : powerIndex x p = 2 := by obtain rfl | rfl := hx <;> rfl
  have hPosted := (((h.map fun s => { s with aretActive := false }).setState x).setTrac tracSuccess).post .txEnd hMask hStatus
  rw [hPower] at hPosted
  refine hPosted.congr_regs fun a => ?_
  simp only [posted, withStatus, tracSuccess, IrqLine.bitNo]
  split_ifs <;> simp_all

end

/-! ### Outputs that send no byte -/

@[simp] theorem bytesSent_append (os os' : List Output) : bytesSent (os ++ os') = bytesSent os ++ bytesSent os' :=
  List.filterMap_append

@[simp] theorem bytesSent_cons_txByte (b : Byte) (os : List Output) : bytesSent (.txByte b :: os) = b :: bytesSent os := rfl

@[simp] theorem bytesSent_map_txByte (bs : List Byte) : bytesSent (bs.map .txByte) = bs := by
  induction bs with
  | nil => rfl
  | cons b bs ih => rw [List.map_cons, bytesSent_cons_txByte, ih]

theorem bytesSent_rise (s : State) (l : IrqLine) : bytesSent (s.rise l) = [] := by
  unfold State.rise
  split <;> rfl

/-- `t` has the outputs of `s` and then some that send no byte. -/
def State.SilentTo (s t : State) : Prop := ∃ os, t.outputs = s.outputs ++ os ∧ bytesSent os = []

namespace State.SilentTo
variable {s t u : State}

theorem same (h : t.outputs = s.outputs) : s.SilentTo t := ⟨[], by simp [h], rfl⟩

theorem output (h : s.SilentTo t) {os : List Output} (hu : u.outputs = t.outputs ++ os) (hSilent : bytesSent os = []) :
    s.SilentTo u := by
  obtain ⟨os', ht, hSilent'⟩ := h
  exact ⟨os' ++ os, by rw [hu, ht, List.append_assoc], by rw [bytesSent_append, hSilent, hSilent', List.append_nil]⟩

theorem stopTx (h : s.SilentTo t) : s.SilentTo t.stopTx := h.output (stopTx_outputs t) (by split <;> rfl)

theorem startRx (h : s.SilentTo t) : s.SilentTo t.startRx := h.output (startRx_outputs t) (by split <;> rfl)

theorem setState (h : s.SilentTo t) (x : OpState) : s.SilentTo (t.setState x) := h.output (setState_outputs t x) rfl

theorem setTrac (h : s.SilentTo t) (c : BitVec 3) : s.SilentTo (t.setTrac c) := h

theorem post (h : s.SilentTo t) (l : IrqLine) : s.SilentTo (t.post l) :=
  h.output (post_outputs_rise t l) (bytesSent_rise t l)

theorem txEndDone (s : State) : s.SilentTo s.txEndDone := by
  have hStopped : s.SilentTo s.stopTx := (same rfl).stopTx
  refine setTrac (c := tracSuccess) ?_ |>.post .txEnd
  split
  · exact setState (t := { s.stopTx with aretActive := false }) hStopped _
  · exact hStopped.setState _

/-- The end of a frame sends nothing more (R207). -/
theorem txEnd (s : State) : s.SilentTo s.txEnd := by
  unfold State.txEnd
  split_ifs
  · exact (same rfl).stopTx.startRx.setState _
  · exact (same (t := State.schedule _ _ _) rfl).stopTx.startRx
  · exact txEndDone s

end State.SilentTo

theorem txEndDone_tx (s : State) : s.txEndDone.tx = { s.tx with active := false } := by
  unfold State.txEndDone
  dsimp only
  split <;> simp

/-- Every end of a frame stops the Transmitter and leaves its cursor (R208 to R210). -/
theorem txEnd_tx (s : State) : s.txEnd.tx = { s.tx with active := false } := by
  unfold State.txEnd
  split_ifs
  · simp [State.txEndAck]
  · simp [State.txEndAwait]
  · exact txEndDone_tx s

/-! ### A frame under way

`s` is the state a frame starts in. Up to the last byte a pull moves the cursor and outputs the byte; what the frame is read from,
registers and kind, stays. -/

theorem runInputs_append (is js : List Instr) (s : State) :
    runInputs (is ++ js) s = (runInputs is s).bind (runInputs js) := by
  induction is generalizing s with
  | nil => rfl
  | cons i is ih =>
    simp only [List.cons_append, runInputs]
    cases exec i s with
    | next t => exact ih t
    | fault | refused => rfl

/-- `n` pulls. -/
abbrev pulls (n : Nat) : List Instr := List.replicate n .pull

/-- `u` is `s` after pulls that put the bytes `sent` on the Medium, the frame not yet at its end. -/
structure State.Underway (s : State) (sent : List Byte) (u : State) : Prop where
  run : runInputs (pulls sent.length) s = some u
  outputs : u.outputs = s.outputs ++ sent.map .txByte
  active : u.tx.active = true
  lead : u.tx.leadUntil ≤ u.now
  regs : ∀ a, u.reg a = s.reg a
  kind : u.tx.isAck = s.tx.isAck
  ackSeq : u.tx.ackSeq = s.tx.ackSeq
  opState : u.opState = s.opState
  /-- So it was after every earlier pull. -/
  before : ∀ k < sent.length, ∃ v, runInputs (pulls k) s = some v ∧ v.tx.active = true ∧ v.opState = s.opState

namespace State.Underway
variable {s u : State} {sent : List Byte}

theorem start (hActive : s.tx.active = true) (hLead : s.tx.leadUntil ≤ s.now) : s.Underway [] s :=
  ⟨rfl, by simp, hActive, hLead, fun _ => rfl, rfl, rfl, rfl, by simp⟩

theorem run_pull (h : s.Underway sent u) : runInputs (pulls (sent.length + 1)) s = some u.pullActive := by
  rw [pulls, List.replicate_succ', runInputs_append, h.run]
  simp [runInputs, exec_pull u h.active h.lead]

/-- No more pulls than bytes sent: the Transmitter is active. -/
theorem active_within (h : s.Underway sent u) {k : Nat} (hk : k ≤ sent.length) :
    ∃ v, runInputs (pulls k) s = some v ∧ v.tx.active = true ∧ v.opState = s.opState := by
  obtain hk | rfl := Nat.lt_or_eq_of_le hk
  · exact h.before k hk
  · exact ⟨u, h.run, h.active, h.opState⟩

/-- A pull that moves on within the frame, `b` its byte and `v` the state after it. -/
theorem pull (h : s.Underway sent u) {v : State} {b : Byte} (hPull : u.pullActive = v)
    (hLike : v = { u with tx := v.tx, lastTxSeq := v.lastTxSeq, outputs := u.outputs ++ [.txByte b] })
    (hKept : v.tx.active = u.tx.active ∧ v.tx.leadUntil = u.tx.leadUntil ∧ v.tx.isAck = u.tx.isAck ∧
      v.tx.ackSeq = u.tx.ackSeq) : s.Underway (sent ++ [b]) v := by
  obtain ⟨hActive, hLead, hKind, hSeq⟩ := hKept
  have hNow : v.now = u.now := by rw [hLike]
  have hRegs (a : Nat) : v.reg a = u.reg a := by rw [hLike, reg_mk, readMem_self]
  have hState : v.opState = u.opState := by rw [hLike]
  refine ⟨?_, ?_, hActive.trans h.active, by rw [hLead, hNow]; exact h.lead, fun a => (hRegs a).trans (h.regs a),
    hKind.trans h.kind, hSeq.trans h.ackSeq, hState.trans h.opState,
    fun k hk => h.active_within (by simpa [Nat.lt_succ_iff] using hk)⟩
  · rw [List.length_append, List.length_singleton, h.run_pull, hPull]
  · rw [hLike]
    simp [h.outputs]

theorem payloadByteAt (h : s.Underway sent u) (p : Nat) : u.payloadByteAt p = s.payloadByteAt p := by
  simp [State.payloadByteAt, State.fb, h.kind, h.ackSeq, h.regs]

theorem lengthToSend (h : s.Underway sent u) : u.lengthToSend = s.lengthToSend := by
  simp [State.lengthToSend, State.fb, h.kind, h.regs]

/-! ### The parts of a frame -/

theorem preamble (h : s.Underway sent u) {n : Nat} (hCursor : u.tx.st = .preamble)
    (hCount : u.tx.cnt + (n + 1) = Config.preambleLen) :
    ∃ v, s.Underway (sent ++ List.replicate (n + 1) 0x00#8) v ∧ v.tx.st = .sfd ∧ v.tx.crc = u.tx.crc := by
  induction n generalizing sent u with
  | zero => exact ⟨_, h.pull (pullActive_preamble hCursor) rfl ⟨rfl, rfl, rfl, rfl⟩, if_pos hCount, rfl⟩
  | succ n ih =>
    have hPulled := h.pull (pullActive_preamble hCursor) rfl ⟨rfl, rfl, rfl, rfl⟩
    have hMore : u.tx.cnt + 1 ≠ Config.preambleLen := by omega
    have hCount' : u.pullPreamble.tx.cnt + (n + 1) = Config.preambleLen := by
      rw [← hCount]
      exact Nat.add_right_comm _ _ _
    obtain ⟨v, hv, hEnd, hCrc⟩ := ih hPulled (if_neg hMore) hCount'
    exact ⟨v, by simpa [List.replicate_succ] using hv, hEnd, hCrc⟩

theorem sfd (h : s.Underway sent u) (hCursor : u.tx.st = .sfd) :
    ∃ v, s.Underway (sent ++ [0x7A#8]) v ∧ v.tx.st = .length ∧ v.tx.crc = u.tx.crc :=
  ⟨_, h.pull (pullActive_sfd hCursor) rfl ⟨rfl, rfl, rfl, rfl⟩, rfl, rfl⟩

theorem length (h : s.Underway sent u) (hCursor : u.tx.st = .length) :
    ∃ v, s.Underway (sent ++ [s.lengthToSend]) v ∧
      v.tx.st = (if 0 < npay s.lengthToSend then .payload else .crcByte1) ∧
      v.tx.cnt = 0 ∧ v.tx.len = s.lengthToSend ∧ v.tx.crc = u.tx.crc := by
  rw [← h.lengthToSend]
  exact ⟨_, h.pull (pullActive_length hCursor) rfl ⟨rfl, rfl, rfl, rfl⟩, rfl, rfl, rfl, rfl⟩

/-- The `n` payload bytes still to come, none where the frame is at its CRC already. -/
theorem payload (h : s.Underway sent u) {n : Nat} (hCursor : u.tx.st = if 0 < n then .payload else .crcByte1)
    (hCount : u.tx.cnt + n = npay u.tx.len) :
    ∃ v, s.Underway (sent ++ (List.range' (u.tx.cnt + 1) n).map s.payloadByteAt) v ∧ v.tx.st = .crcByte1 ∧
      v.tx.crc = ((List.range' (u.tx.cnt + 1) n).map s.payloadByteAt).foldl (fun c b => crc16Update c (rev8 b)) u.tx.crc := by
  induction n generalizing sent u with
  | zero => exact ⟨u, by simpa using h, hCursor, rfl⟩
  | succ n ih =>
    have hPulled := h.pull (pullActive_payload hCursor) rfl ⟨rfl, rfl, rfl, rfl⟩
    have hNext : u.pullPayload.tx.st = if 0 < n then .payload else .crcByte1 := by
      have hLast : u.tx.cnt + 1 = npay u.tx.len ↔ ¬ 0 < n := by omega
      exact (if_congr hLast rfl rfl).trans (ite_not _ _ _)
    have hCount' : u.pullPayload.tx.cnt + n = npay u.pullPayload.tx.len := by
      show u.tx.cnt + 1 + n = npay u.tx.len
      omega
    obtain ⟨v, hv, hEnd, hCrc⟩ := ih hPulled hNext hCount'
    have hPosition : u.pullPayload.tx.cnt = u.tx.cnt + 1 := rfl
    rw [h.payloadByteAt, hPosition] at hv
    refine ⟨v, by simpa [List.range'_succ] using hv, hEnd, ?_⟩
    rw [hCrc, List.range'_succ, List.map_cons, List.foldl_cons, ← h.payloadByteAt]
    rfl

theorem crcByte1 (h : s.Underway sent u) (hCursor : u.tx.st = .crcByte1) :
    ∃ v, s.Underway (sent ++ [rev8 (field u.tx.crc 8 8)]) v ∧ v.tx.st = .crcByte2 ∧ v.tx.crc = u.tx.crc :=
  ⟨_, h.pull (pullActive_crcByte1 hCursor) rfl ⟨rfl, rfl, rfl, rfl⟩, rfl, rfl⟩

end State.Underway

/-! ### A whole frame -/

/-- The payload of the frame that starts in `s` (R203, R205). -/
def State.payloadToSend (s : State) : List Byte := (List.range' 1 (npay s.lengthToSend)).map s.payloadByteAt

/-- An auto-ACK's payload is its own three bytes, a data frame's stands in the frame buffer from position 1 on. -/
theorem payloadToSend_eq (s : State) :
    s.payloadToSend =
      if s.tx.isAck then [0x02#8, 0x00#8, s.tx.ackSeq]
      else (List.range (s.lengthToSend.toNat - 2)).map (fun k => s.reg (0x180 + (k + 1))) := by
  cases hKind : s.tx.isAck with
  | true =>
    simp [State.payloadToSend, State.lengthToSend, hKind, npay_eq, Config.ackLen, List.range', State.payloadByteAt, ackByte]
  | false =>
    have hLen := lengthToSend_le s
    rw [State.payloadToSend, npay_eq, List.range'_eq_map_range, List.map_map]
    refine List.map_congr_left fun k hk => ?_
    have hInside : k < s.lengthToSend.toNat - 2 := List.mem_range.mp hk
    rw [Function.comp_apply, Nat.add_comm 1 k, payloadByteAt_eq s (by omega), hKind]
    rfl

/-- Every byte of the frame that starts in `s` but the second of its CRC (30_encoding.md R130, R139). -/
def State.bytesBeforeLast (s : State) : List Byte :=
  [0x00#8, 0x00#8, 0x00#8, 0x00#8, 0x7A#8, s.lengthToSend] ++ s.payloadToSend ++ [rev8 (field (crcOf s.payloadToSend) 8 8)]

theorem length_bytesBeforeLast (s : State) : s.bytesBeforeLast.length + 1 = 8 + s.payloadToSend.length := by
  simp only [State.bytesBeforeLast, List.length_append, List.length_cons, List.length_nil]
  omega

/-- From a started frame the pulls send all but the second CRC byte. -/
theorem underway_crcByte2 {s : State} (hActive : s.tx.active = true) (hLead : s.tx.leadUntil ≤ s.now)
    (hCursor : s.tx.st = .preamble) (hCount : s.tx.cnt = 0) (hCrc : s.tx.crc = 0#16) :
    ∃ v, s.Underway s.bytesBeforeLast v ∧ v.tx.st = .crcByte2 ∧ v.tx.crc = crcOf s.payloadToSend := by
  obtain ⟨v₁, h₁, hCursor₁, hCrc₁⟩ := (State.Underway.start hActive hLead).preamble (n := 3) hCursor (by rw [hCount]; rfl)
  obtain ⟨v₂, h₂, hCursor₂, hCrc₂⟩ := h₁.sfd hCursor₁
  obtain ⟨v₃, h₃, hCursor₃, hCount₃, hLen₃, hCrc₃⟩ := h₂.length hCursor₂
  obtain ⟨v₄, h₄, hCursor₄, hCrc₄⟩ := h₃.payload hCursor₃ (by rw [hCount₃, hLen₃, Nat.zero_add])
  rw [hCount₃] at h₄ hCrc₄
  rw [hCrc₃, hCrc₂, hCrc₁, hCrc] at hCrc₄
  obtain ⟨v₅, h₅, hCursor₅, hCrc₅⟩ := h₄.crcByte1 hCursor₄
  rw [hCrc₄] at h₅ hCrc₅
  exact ⟨v₅, h₅, hCursor₅, hCrc₅⟩

/-- The end of a basic data frame (R210). -/
theorem txEnd_basic {s : State} (hKind : s.tx.isAck = false) (hState : s.opState = .busyTx) :
    s.txEnd.opState = .pllOn ∧ bit (s.txEnd.reg Addr.irqStatus) 6 = true := by
  have hBasic : s.opState ≠ .busyTxAret := by simp [hState]
  rw [txEnd_done hKind (.inr hBasic)]
  simp [State.txEndDone, hBasic, bit_or, IrqLine.bitNo, show bit 64#8 6 = true by decide]

end Sys2Proof.Machine

section
open Sys2Proof Sys2Proof.Machine

/-- Settles O24, cursor by cursor. -/
theorem framingPulls : Obligations.FramingPulls := by
  unfold Obligations.FramingPulls
  intro s hActive hLead
  rw [exec_pull s hActive hLead]
  refine ⟨fun hCursor => ?preamble, fun hCursor => ?sfd, fun hCursor len hLen => ?length⟩
  case preamble =>
    rw [pullActive_preamble hCursor]
    simp [State.pullPreamble, State.emit, Config.preambleLen]
  case sfd =>
    rw [pullActive_sfd hCursor]
    rfl
  case length =>
    rw [← lengthToSend_eq] at hLen
    rw [pullActive_length hCursor, hLen]
    simp [State.pullLength, State.emit, npay_pos]

/-- Settles O25: the cursor's bounds keep the position inside the frame buffer (`payloadByteAt_eq`). -/
theorem payloadPull : Obligations.PayloadPull := by
  unfold Obligations.PayloadPull
  intro s p b hBounds hActive hLead hCursor hp hb
  obtain ⟨-, -, -, -, hTx⟩ := hBounds
  obtain ⟨-, hInside, hLen⟩ := hTx hActive
  have hCount : s.tx.cnt < npay s.tx.len := hInside hCursor
  have hPosition : p < 128 := by
    rw [npay_eq] at hCount
    omega
  have hLast : p = npay s.tx.len ↔ p + 2 = s.tx.len.toNat := by
    rw [npay_eq]
    omega
  rw [← payloadByteAt_eq s hPosition] at hb
  subst hp hb
  rw [exec_pull s hActive hLead, pullActive_payload hCursor]
  simp [State.pullPayload, State.emit, hLast]

/-- Settles O26: the first moves the cursor on; the second's byte comes before the outputs of the end, which send nothing
(`State.SilentTo.txEnd`). -/
theorem crcPulls : Obligations.CrcPulls := by
  unfold Obligations.CrcPulls
  intro s hActive hLead
  rw [exec_pull s hActive hLead]
  refine ⟨fun hCursor => ?first, fun hCursor => ?second⟩
  case first =>
    rw [pullActive_crcByte1 hCursor]
    rfl
  case second =>
    obtain ⟨os, hOutputs, hSilent⟩ := State.SilentTo.txEnd s.lastByteSent
    have hTx := txEnd_tx s.lastByteSent
    rw [pullActive_crcByte2 hCursor]
    exact ⟨_, os, rfl, by rw [hTx]; rfl, by rw [hTx], hOutputs, hSilent⟩

/-- Settles O27: the operations of R208 followed on the state after the last byte. -/
theorem ackFrameEnds : Obligations.AckFrameEnds := by
  unfold Obligations.AckFrameEnds
  intro s hSeq hActive hLead hCursor hKind
  have hRx : s.rx.active = false := rx_stopped_of_sending hSeq hActive
  have hState : s.opState = .busyRxAack := by
    obtain ⟨-, hTx, -⟩ := hSeq
    simpa [hKind] using hTx hActive
  have hEnd : s.lastByteSent.txEnd = s.lastByteSent.txEndAck := txEnd_ack hKind
  rw [exec_pull s hActive hLead, pullActive_crcByte2 hCursor, hEnd]
  refine ((answers_self s.lastByteSent).txEndAck rfl).congr_state (like_of_fields ?_)
  simp [State.entering, State.lastByteSent, State.channel, hActive, hRx, hState]

/-- Settles O28: likewise for R209. -/
theorem awaitingAckBegins : Obligations.AwaitingAckBegins := by
  unfold Obligations.AwaitingAckBegins
  intro s hSeq hActive hLead hCursor hKind hReq hState
  have hRx : s.rx.active = false := rx_stopped_of_sending hSeq hActive
  have hEnd : s.lastByteSent.txEnd = s.lastByteSent.txEndAwait := txEnd_await hKind hReq hState
  rw [exec_pull s hActive hLead, pullActive_crcByte2 hCursor, hEnd]
  refine ((answers_self s.lastByteSent).txEndAwait rfl).congr_state (like_of_fields ?_)
  simp [State.txEndAwait, State.lastByteSent, State.channel, Pending.set, hActive, hRx]

/-- Settles O29: likewise for R210, in either mode (`State.transmittedInto`). -/
theorem dataFrameEnds : Obligations.DataFrameEnds := by
  unfold Obligations.DataFrameEnds
  intro s x code hSeq hActive hLead hCursor hKind hMode
  obtain ⟨-, -, -, hAret, -⟩ := hSeq
  have hReady : x = .pllOn ∨ x = .txAretOn := by tauto
  have hCode : x.code.setWidth 8 = code := by obtain ⟨-, rfl, rfl⟩ | ⟨-, -, rfl, rfl⟩ := hMode <;> rfl
  have hNoWait : s.tx.ackReq = false ∨ s.opState ≠ .busyTxAret := by
    obtain ⟨hState, -⟩ | ⟨-, hReq, -⟩ := hMode
    · exact .inr (by simp [hState])
    · exact .inl hReq
  have hEnd : s.lastByteSent.txEnd = s.lastByteSent.txEndDone := txEnd_done hKind hNoWait
  have hInto : s.lastByteSent.txEndDone = s.lastByteSent.stopTx.transmittedInto x := by
    obtain ⟨hState, rfl, -⟩ | ⟨hState, -, rfl, -⟩ := hMode
    · exact txEndDone_basic (by simp [State.lastByteSent, hState]) (by simpa [State.lastByteSent, hState] using hAret)
    · exact txEndDone_extended hState
  have hRise : s.lastByteSent.stopTx.rise .txEnd = s.rise .txEnd := rise_congr (stopTx_reg _ _) (stopTx_reg _ _)
  rw [exec_pull s hActive hLead, pullActive_crcByte2 hCursor, hEnd, hInto, ← hCode]
  refine ((answers_self s.lastByteSent).stopTx.transmittedInto hReady (by simp) (by simp)).congr_state (like_of_fields ?_)
  rw [hRise]
  simp [State.entering, State.lastByteSent, hActive]

/-- Settles O30: the three branches of the pull. -/
theorem pullAdmission : Obligations.PullAdmission := by
  unfold Obligations.PullAdmission
  intro s
  refine ⟨fun hActive hEarly => ?early, fun hActive hLead => ⟨_, exec_pull s hActive hLead⟩, fun hStopped => ?stopped⟩
  case early =>
    show execPull s = _
    simp [execPull, hActive, hEarly]
  case stopped =>
    refine ⟨.pullWhileStopped, ?_⟩
    show execPull s = _
    simp [execPull, hStopped, State.emit, State.diag]

/-- Settles O31: the pulls are followed part by part up to the second CRC byte (`underway_crcByte2`), which ends the frame. -/
theorem frameOnTheMedium : Obligations.FrameOnTheMedium := by
  unfold Obligations.FrameOnTheMedium
  intro s len payload hActive hCursor hCount hCrc hLead hLen hPayload
  rw [← lengthToSend_eq] at hLen
  subst hLen
  rw [← payloadToSend_eq] at hPayload
  subst hPayload
  obtain ⟨v, hv, hCursorEnd, hCrcEnd⟩ := underway_crcByte2 hActive hLead hCursor hCount hCrc
  have hRun := hv.run_pull
  have hTx := txEnd_tx v.lastByteSent
  obtain ⟨os, hOutputs, hSilent⟩ := State.SilentTo.txEnd v.lastByteSent
  rw [pullActive_crcByte2 hCursorEnd, length_bytesBeforeLast] at hRun
  refine ⟨⟨v.lastByteSent.txEnd, hRun, ?bytes, by rw [hTx], by rw [hTx]; rfl, fun hKind hState => ?basic⟩,
    fun k hk => ?before⟩
  case bytes =>
    rw [hOutputs]
    simp [State.lastByteSent, State.bytesBeforeLast, hv.outputs, hSilent, hCrcEnd]
  case basic => exact txEnd_basic (hv.kind.trans hKind) (hv.opState.trans hState)
  case before =>
    rw [← length_bytesBeforeLast] at hk
    exact hv.active_within (Nat.le_of_lt_succ hk)

end

/-! ### O33 to O38, O41 to O46: the Receiver -/

namespace Sys2Proof.Machine

/-! ### Deliveries, operation by operation -/

section
variable {s t u : State} {f : Nat → Byte} {x : OpState} {code : Byte}

/-- The RSSI sample (43_receiver.md R244). -/
theorem sampleRssi_answers (s : State) : Answers (.next s.sampleRssi) { s with env := s.env.afterRssi } s.heardRegs :=
  .of_regFile rfl (sampleRssi_reg s)

@[simp] theorem sampleRssi_awaitingAck (s : State) : s.sampleRssi.awaitingAck = s.awaitingAck := rfl

theorem Answers.setRxCursor (h : Answers (.next t) u f) (c : RxCursor) :
    Answers (.next (t.setRxCursor c)) (u.setRxCursor c) f := h.map (State.setRxCursor · c)

/-- A delivered byte that moves the cursor and does no more. -/
theorem heard_answers (s : State) (c : RxCursor) :
    Answers (.next (s.sampleRssi.setRxCursor c)) (s.heard c) s.heardRegs := (sampleRssi_answers s).setRxCursor c

/-- `schedule(ACK_TIMEOUT, 0)`: the timeout is due now (60_exceptions.md R380). -/
theorem Answers.timeoutNow (h : Answers (.next t) u f) :
    Answers (.next (t.schedule .ackTimeout 0)) { u with pending := { u.pending with ackTimeout := some u.now } } f := by
  refine (h.map (State.schedule · .ackTimeout 0)).congr_state (like_of_fields ?_)
  simp [Pending.set]

/-- `setState(listenState(S))` (R241). -/
theorem Answers.returnToListen (h : Answers (.next t) u f) (hRow : (u.opState, x, code) ∈ listenRows) :
    Answers (.next t.returnToListen) (u.entering x 3) (withStatus f code) := by
  have hListen := returnToListen_answers t (h.opState_eq ▸ hRow)
  have hReg := h.reg_eq
  obtain ⟨m, rfl, -⟩ := h.exists_regFile
  exact (hListen.congr_state rfl).congr_regs fun a => by rw [withStatus, withStatus, hReg]

/-- `setState(busyState(S))` (R241). -/
theorem Answers.enterBusy (h : Answers (.next t) u f) (hRow : (u.opState, x, code) ∈ busyRows) :
    Answers (.next (t.setState t.opState.busy)) (u.entering x 3) (withStatus f code) := by
  have hBusy : u.opState.busy = x ∧ x.code.setWidth 8 = code ∧ ∀ p, powerIndex x p = 3 := by
    simp only [busyRows, List.mem_cons, Prod.mk.injEq, List.not_mem_nil, or_false] at hRow
    obtain ⟨hS, rfl, rfl⟩ | ⟨hS, rfl, rfl⟩ | ⟨hS, rfl, rfl⟩ | ⟨hS, rfl, rfl⟩ := hRow <;>
      exact ⟨by rw [hS]; rfl, rfl, fun _ => rfl⟩
  obtain ⟨rfl, rfl, hPower⟩ := hBusy
  rw [h.opState_eq, ← hPower]
  exact h.setState _

end

/-! ### A locked byte by the cursor (R242) -/

section
variable {s : State} (b : Byte)

theorem exec_rxbL_sfdScan (hActive : s.rx.active = true) (hCursor : s.rx.st = .sfdScan) :
    exec (.rxbL b) s = .next (s.sampleRssi.sync b) := by
  rw [exec_rxbL s b hActive, State.receiveByte, show s.sampleRssi.rx.st = _ from hCursor]

theorem exec_rxbL_sfdMatched1 (hActive : s.rx.active = true) (hCursor : s.rx.st = .sfdMatched1) :
    exec (.rxbL b) s = .next (s.sampleRssi.sync b) := by
  rw [exec_rxbL s b hActive, State.receiveByte, show s.sampleRssi.rx.st = _ from hCursor]

theorem exec_rxbL_sfdMatched2 (hActive : s.rx.active = true) (hCursor : s.rx.st = .sfdMatched2) :
    exec (.rxbL b) s = .next (s.sampleRssi.lengthByte b) := by
  rw [exec_rxbL s b hActive, State.receiveByte, show s.sampleRssi.rx.st = _ from hCursor]

theorem exec_rxbL_inPacket (hActive : s.rx.active = true) (hCursor : s.rx.st = .inPacket) :
    exec (.rxbL b) s = .next (s.sampleRssi.payloadByte b) := by
  rw [exec_rxbL s b hActive, State.receiveByte, show s.sampleRssi.rx.st = _ from hCursor]

theorem exec_rxbL_crc1 (hActive : s.rx.active = true) (hCursor : s.rx.st = .crc1) :
    exec (.rxbL b) s = .next (s.sampleRssi.crcByte1 b) := by
  rw [exec_rxbL s b hActive, State.receiveByte, show s.sampleRssi.rx.st = _ from hCursor]

theorem exec_rxbL_crc2 (hActive : s.rx.active = true) (hCursor : s.rx.st = .crc2) :
    exec (.rxbL b) s = .next (s.sampleRssi.crcByte2 b) := by
  rw [exec_rxbL s b hActive, State.receiveByte, show s.sampleRssi.rx.st = _ from hCursor]

end

section
variable {s : State}

theorem setRxCursor_same {c : RxCursor} (h : s.rx.st = c) : s.setRxCursor c = s := by
  rw [← h]
  rfl

end

/-! ### A lost lock (R243) -/

section
variable {s : State}

theorem inProgress_iff (c : RxCursor) :
    c.inProgress = true ↔ c = .sfdMatched2 ∨ c = .inPacket ∨ c = .crc1 ∨ c = .crc2 := by
  cases c <;> simp [RxCursor.inProgress]

theorem lockLost_outside (h : s.rx.st = .sfdScan ∨ s.rx.st = .sfdMatched1) : s.lockLost = s.setRxCursor .sfdScan := by
  have hOutside : s.rx.st.inProgress = false := by obtain h | h := h <;> rw [h] <;> rfl
  simp [State.lockLost, hOutside]

theorem lockLost_waiting (h : s.rx.st.inProgress = true) (hWait : s.awaitingAck = true) :
    s.lockLost = (s.setRxCursor .sfdScan).schedule .ackTimeout 0 := by
  simp [State.lockLost, h, hWait]

theorem lockLost_listening (h : s.rx.st.inProgress = true) (hWait : s.awaitingAck = false) :
    s.lockLost = (s.setRxCursor .sfdScan).returnToListen := by
  simp [State.lockLost, h, hWait]

end

/-! ### The scan for the SFD (R245, R246) -/

section
variable {s : State} {b : Byte}

theorem sync_sfdScan (h : s.rx.st = .sfdScan) (b : Byte) :
    s.sync b = s.setRxCursor (if b = 0x00#8 then .sfdMatched1 else .sfdScan) := by
  rw [State.sync, if_pos h]
  split_ifs
  · rfl
  · exact (setRxCursor_same h).symm

theorem sync_sfdMatched1 (h : s.rx.st = .sfdMatched1) (hb : b ≠ 0x7A#8) :
    s.sync b = s.setRxCursor (if b = 0x00#8 then .sfdMatched1 else .sfdScan) := by
  have hScan : s.rx.st ≠ .sfdScan := by simp [h]
  rw [State.sync, if_neg hScan, if_neg (show b ≠ Config.sfdByte from hb)]
  split_ifs
  · exact (setRxCursor_same h).symm
  · rfl

theorem sync_sfd (h : s.rx.st = .sfdMatched1) : s.sync 0x7A#8 = s.sfdMatch := by
  have hScan : s.rx.st ≠ .sfdScan := by simp [h]
  rw [State.sync, if_neg hScan]
  rfl

/-- The SFD match is suppressed (R246). -/
def State.matchSuppressed (s : State) : Bool := s.rxDisabled || rxThresholdSuppresses s.pdtLevel s.rssi

/-- The sample drawn is the one the threshold sees: it is stored before the byte is looked at (R242, R244). -/
theorem sampleRssi_rssi (s : State) : s.sampleRssi.rssi = s.rssiDraw := by
  simp [State.rssi, State.sampleRssi, field_cat_low]

theorem sampleRssi_matchSuppressed (s : State) :
    s.sampleRssi.matchSuppressed =
      (bit (s.reg Addr.rxSyn) 7 ||
        (decide (field (s.reg Addr.rxSyn) 0 4 ≠ 0#4) && Config.rxThreshold (field (s.reg Addr.rxSyn) 0 4) s.rssiDraw)) := by
  have hSyn : s.sampleRssi.reg Addr.rxSyn = s.reg Addr.rxSyn := sampleRssi_reg s _
  rw [State.matchSuppressed, sampleRssi_rssi, State.rxDisabled, State.pdtLevel, hSyn, rxThresholdSuppresses]

/-- The frame context as a match resets it (R246). -/
def Rx.begun (r : Rx) : Rx :=
  { r with
    st := .sfdMatched2, pos := 0, len := 0#8, crc := 0#16, hdr := List.replicate 13 0#8, ackReq := false, dstMode := 0#2,
    filter := .pass, seqOk := false }

/-- The frame context reset and PHY_ED_LEVEL invalidated (R246). -/
def State.frameBegun (s : State) : State := State.setReg { s with rx := s.rx.begun } Addr.phyEdLevel 0xFF#8

theorem sfdMatch_suppressed (h : s.matchSuppressed = true) : s.sfdMatch = s.setRxCursor .sfdScan := if_pos h

theorem sfdMatch_waiting (h : s.matchSuppressed = false) (hWait : s.awaitingAck = true) : s.sfdMatch = s.frameBegun :=
  (if_neg (Bool.not_eq_true _ ▸ h)).trans (if_pos hWait)

theorem sfdMatch_listening (h : s.matchSuppressed = false) (hWait : s.awaitingAck = false) :
    s.sfdMatch = (s.frameBegun.setState s.frameBegun.opState.busy).post .rxStart :=
  (if_neg (Bool.not_eq_true _ ▸ h)).trans (if_neg (Bool.not_eq_true _ ▸ hWait))

theorem frameBegun_answers (s : State) :
    Answers (.next s.sampleRssi.frameBegun) { s with env := s.env.afterRssi, rx := s.rx.begun }
      (fun a => if a = Addr.phyEdLevel then 0xFF#8 else s.heardRegs a) :=
  ((sampleRssi_answers s).map fun s => { s with rx := s.rx.begun }).setReg _ _

end

/-! ### The length byte (R247) -/

section
variable {s : State} {b : Byte}

theorem lengthByte_dropped (h : (b &&& 0x7F#8).toNat < 2) :
    s.lengthByte b =
      if s.awaitingAck then s.setRxCursor .sfdScan else (s.setRxCursor .sfdScan).returnToListen :=
  if_pos h

/-- The frame length taken, and where the cursor goes from there. -/
def State.lengthTaken (s : State) (len : Byte) : State :=
  { s with rx := { s.rx with len := len, st := if len.toNat = 2 then .crc1 else .inPacket } }

theorem lengthByte_kept (h : 2 ≤ (b &&& 0x7F#8).toNat) :
    s.lengthByte b =
      if s.awaitingAck then s.lengthTaken (b &&& 0x7F#8)
      else ((s.lengthTaken (b &&& 0x7F#8)).setReg 0x180 (b &&& 0x7F#8)).setReg Addr.tstRxLength (b &&& 0x7F#8) := by
  have hTwo : b &&& 0x7F#8 = 2#8 ↔ (b &&& 0x7F#8).toNat = 2 := BitVec.toNat_inj.symm
  have hKept : ¬ (b &&& 0x7F#8).toNat < 2 := by omega
  simp only [State.lengthByte, if_neg hKept, hTwo]
  rfl

theorem lengthByte_kept_answers (s : State) {len : Byte} (hLen : len = b &&& 0x7F#8) (hKept : 2 ≤ len.toNat) :
    Answers (.next (s.sampleRssi.lengthByte b)) (State.lengthTaken { s with env := s.env.afterRssi } len)
      (fun a => if s.awaitingAck = false ∧ (a = 0x180 ∨ a = 0x17B) then len else s.heardRegs a) := by
  subst hLen
  have hTaken := (sampleRssi_answers s).map (State.lengthTaken · (b &&& 0x7F#8))
  rw [lengthByte_kept hKept, sampleRssi_awaitingAck]
  split_ifs with hWait
  · exact hTaken.congr_regs fun a => by simp [hWait]
  · refine ((hTaken.setReg 0x180 _).setReg Addr.tstRxLength _).congr_regs fun a => ?_
    split_ifs <;> simp_all

end

/-! ### A payload byte (R248, R256, R257) -/

theorem post_reg_other (s : State) (l : IrqLine) {a : Nat} (h : a ≠ Addr.irqStatus) : (s.post l).reg a = s.reg a := by
  rw [post_reg, if_neg h]

/-- What the address matcher leaves of a frame (44_address_filter.md R290): it may change the verdict, the addressing mode, the
sequence number with the wish to acknowledge, and post AMI. -/
structure MatcherLeaves (s t : State) : Prop where
  rx : t.rx = { s.rx with filter := t.rx.filter, dstMode := t.rx.dstMode } := by rfl
  opState : t.opState = s.opState := by rfl
  awaitingAck : t.awaitingAck = s.awaitingAck := by rfl
  env : t.env = s.env := by rfl
  regs : ∀ a, a ≠ Addr.irqStatus → t.reg a = s.reg a := by exact fun _ _ => rfl

theorem MatcherLeaves.ite {s t t' : State} {c : Prop} [Decidable c] (ht : MatcherLeaves s t) (ht' : MatcherLeaves s t') :
    MatcherLeaves s (if c then t else t') := by
  split
  · exact ht
  · exact ht'

section
variable {s t : State}

theorem addressMatch_leaves (s : State) (b : Byte) (p : Nat) : MatcherLeaves s (s.addressMatch b p) := by
  have hSame : MatcherLeaves s s := {}
  have hRejected : MatcherLeaves s s.rejectFrame := {}
  have hPosted : MatcherLeaves s (s.post .ami) := { regs := fun _ => post_reg_other s .ami }
  have hType : MatcherLeaves s (s.frameTypeCheck b) := by
    unfold State.frameTypeCheck
    split
    · split
      · exact hRejected
      · exact {}
    · exact hSame
  have hMode : MatcherLeaves s (s.dstModeRecord b) := {}
  have hSeq : MatcherLeaves s (s.seqTrack b) := {}
  have hPan : MatcherLeaves s s.panCheck := .ite (.ite hRejected hSame) hSame
  have hShort : MatcherLeaves s s.shortCheck := .ite (.ite hPosted hRejected) hSame
  have hExt : MatcherLeaves s s.extCheck := .ite (.ite hPosted hRejected) hSame
  exact .ite hSame (.ite hType (.ite hMode (.ite hSeq (.ite hPan (.ite hShort (.ite hExt hSame))))))

theorem MatcherLeaves.setRxCursor (h : MatcherLeaves s t) (c : RxCursor) :
    MatcherLeaves (s.setRxCursor c) (t.setRxCursor c) where
  rx := by
    rw [setRxCursor_rx, h.rx]
    rfl
  opState := h.opState
  awaitingAck := h.awaitingAck
  env := h.env
  regs := h.regs

/-- The matcher has nothing to check (R290). -/
theorem addressMatch_unchecked {p : Nat} (h : s.rx.filter = .reject ∨ p ∉ [1, 2, 3, 5, 7, 13]) (b : Byte) :
    s.addressMatch b p = s := by
  obtain h | h := h
  · exact if_pos h
  · simp only [List.mem_cons, List.not_mem_nil, or_false, not_or] at h
    simp [State.addressMatch, h]

/-- A payload byte counted and folded into the CRC (R248, R256). -/
def State.payloadCounted (s : State) (b : Byte) : State :=
  { s with rx := { s.rx with pos := s.rx.pos + 1, crc := crc16Update s.rx.crc (rev8 b) } }

/-- A payload byte outside an ACK wait, before the address matcher sees it (R248). -/
def State.payloadRecorded (s : State) (b : Byte) : State :=
  State.setFb
    { s with rx := { s.rx with
        pos := s.rx.pos + 1
        crc := crc16Update s.rx.crc (rev8 b)
        ackReq := if s.rx.pos = 0 then bit b 5 else s.rx.ackReq
        hdr := if s.rx.pos < 13 then s.rx.hdr.set s.rx.pos b else s.rx.hdr } }
    (BitVec.ofNat 7 (s.rx.pos + 1)) b

/-- The cursor after the next payload byte of a frame that goes on (R248). -/
def Rx.afterPayload (r : Rx) : RxCursor := if r.pos + 3 = r.len.toNat then .crc1 else .inPacket

/-- The last payload byte moves the cursor on to the CRC, where the frame was not given up; `p` is its position (R248, R256). -/
def State.packetAdvanced (s : State) (p : Nat) : State :=
  if s.rx.st = .inPacket ∧ p + 2 = s.rx.len.toNat then s.setRxCursor .crc1 else s

theorem packetAdvanced_inPacket (h : s.rx.st = .inPacket) (p : Nat) :
    s.packetAdvanced p = s.setRxCursor (if p + 2 = s.rx.len.toNat then .crc1 else .inPacket) := by
  by_cases hLast : p + 2 = s.rx.len.toNat
  · rw [if_pos hLast]
    exact if_pos ⟨h, hLast⟩
  · rw [if_neg hLast, setRxCursor_same h]
    exact if_neg fun ⟨_, hEnd⟩ => hLast hEnd

theorem packetAdvanced_givenUp (h : s.rx.st = .sfdScan) (p : Nat) : s.packetAdvanced p = s :=
  if_neg fun hBoth => by simp [h] at hBoth

/-- Outside an ACK wait the byte is recorded, then matched; past the header there is nothing to match (R248, R290). -/
theorem takePayload_counted (s : State) (b : Byte) :
    (s.payloadCounted b).takePayload b (s.rx.pos + 1) = (s.payloadRecorded b).addressMatch b (s.rx.pos + 1) := by
  have hAsked : (s.payloadCounted b).takePayload b (s.rx.pos + 1) =
      if s.rx.pos + 1 ≤ 13 then (s.payloadRecorded b).addressMatch b (s.rx.pos + 1) else s.payloadRecorded b := by
    by_cases hFirst : s.rx.pos = 0
    · simp [State.takePayload, State.payloadCounted, State.payloadRecorded, State.setFb, State.setReg, Rx.setHdr, hFirst]
    · by_cases hHeader : s.rx.pos < 13 <;>
        simp [State.takePayload, State.payloadCounted, State.payloadRecorded, State.setFb, State.setReg, Rx.setHdr, hFirst,
          hHeader]
  rw [hAsked]
  split_ifs with hHeader
  · rfl
  · exact (addressMatch_unchecked (.inr (by simp; omega)) b).symm

theorem payloadByte_listening (hWait : s.awaitingAck = false) (b : Byte) :
    s.payloadByte b = ((s.payloadRecorded b).addressMatch b (s.rx.pos + 1)).packetAdvanced (s.rx.pos + 1) := by
  have hNoWait : (s.payloadCounted b).awaitingAck ≠ true := by simp [State.payloadCounted, hWait]
  rw [← takePayload_counted]
  exact congrArg (State.packetAdvanced · (s.rx.pos + 1)) (if_neg hNoWait)

theorem payloadByte_waiting (hWait : s.awaitingAck = true) (b : Byte) :
    s.payloadByte b =
      (if s.rx.pos + 1 = 3 then (s.payloadCounted b).ackSeqCheck b else s.payloadCounted b).packetAdvanced (s.rx.pos + 1) :=
  have hCounted : (s.payloadCounted b).awaitingAck = true := hWait
  congrArg (State.packetAdvanced · (s.rx.pos + 1)) (if_pos hCounted)

/-- A payload byte is recorded, and the matcher leaves that (R248, 44_address_filter.md R290). -/
theorem payloadByte_leaves (hCursor : s.rx.st = .inPacket) (hWait : s.awaitingAck = false) (b : Byte) :
    MatcherLeaves ((s.payloadRecorded b).setRxCursor s.rx.afterPayload) (s.payloadByte b) := by
  have hMatched := addressMatch_leaves (s.payloadRecorded b) b (s.rx.pos + 1)
  have hCursor' : ((s.payloadRecorded b).addressMatch b (s.rx.pos + 1)).rx.st = .inPacket :=
    (congrArg Rx.st hMatched.rx).trans hCursor
  have hLen : ((s.payloadRecorded b).addressMatch b (s.rx.pos + 1)).rx.len = s.rx.len :=
    (congrArg Rx.len hMatched.rx).trans rfl
  rw [payloadByte_listening hWait, packetAdvanced_inPacket hCursor', hLen]
  exact hMatched.setRxCursor _

/-- Where the matcher has nothing to check, the byte is only recorded (R248, R290). -/
theorem payloadByte_unchecked (hCursor : s.rx.st = .inPacket) (hWait : s.awaitingAck = false)
    (h : s.rx.filter = .reject ∨ s.rx.pos + 1 ∉ [1, 2, 3, 5, 7, 13]) (b : Byte) :
    s.payloadByte b = (s.payloadRecorded b).setRxCursor s.rx.afterPayload := by
  rw [payloadByte_listening hWait, addressMatch_unchecked (s := s.payloadRecorded b) h]
  exact packetAdvanced_inPacket (s := s.payloadRecorded b) hCursor _

/-- Any other position of a frame in an ACK wait (R257). -/
theorem payloadByte_counted (hCursor : s.rx.st = .inPacket) (hWait : s.awaitingAck = true) (h : s.rx.pos ≠ 2) (b : Byte) :
    s.payloadByte b = (s.payloadCounted b).setRxCursor s.rx.afterPayload := by
  rw [payloadByte_waiting hWait, if_neg (by simpa using h)]
  exact packetAdvanced_inPacket (s := s.payloadCounted b) hCursor _

theorem payloadByte_ackSeq (hWait : s.awaitingAck = true) (h : s.rx.pos = 2) (b : Byte) :
    s.payloadByte b = ((s.payloadCounted b).ackSeqCheck b).packetAdvanced (s.rx.pos + 1) := by
  rw [payloadByte_waiting hWait, if_pos (by rw [h])]

theorem ackSeqCheck_same {b : Byte} (h : b = s.lastTxSeq) :
    s.ackSeqCheck b = { s with rx := { s.rx with seqOk := true } } := if_pos h

theorem ackSeqCheck_other {b : Byte} (h : b ≠ s.lastTxSeq) :
    s.ackSeqCheck b = (s.setRxCursor .sfdScan).schedule .ackTimeout 0 := if_neg h

theorem payloadCounted_answers (s : State) (b : Byte) :
    Answers (.next (s.sampleRssi.payloadCounted b)) (State.payloadCounted { s with env := s.env.afterRssi } b) s.heardRegs :=
  (sampleRssi_answers s).map (State.payloadCounted · b)

/-- A payload byte inside the frame buffer (R248's "`p <= 125` always"). -/
theorem payloadRecorded_answers (s : State) (b : Byte) (h : s.rx.pos + 1 < 128) :
    Answers (.next ((s.sampleRssi.payloadRecorded b).setRxCursor s.rx.afterPayload)) (s.payloadTaken b) (s.payloadRegs b) := by
  refine .of_regFile rfl fun a => ?_
  rw [setRxCursor_reg, State.payloadRecorded, State.payloadRegs, ← sampleRssi_reg]
  exact setFb_reg_at _ _ _ _ h

end

/-! ### The CRC bytes (R249, R250) -/

section
variable {s t u : State} {f : Nat → Byte} {x : OpState} {code : Byte}

theorem crcByte1_answers (s : State) (b : Byte) (h : s.rx.len.toNat < 128) :
    Answers (.next (s.sampleRssi.crcByte1 b))
      { s with env := s.env.afterRssi, rx := { s.rx with crc1 := b, st := .crc2 } }
      (fun a => if s.awaitingAck = false ∧ a = 0x180 + (s.rx.len.toNat - 1) then b else s.heardRegs a) := by
  have hCaptured := (sampleRssi_answers s).map fun s => { s with rx := { s.rx with crc1 := b, st := .crc2 } }
  unfold State.crcByte1
  dsimp only
  split_ifs with hWait
  · have hWait' : s.awaitingAck = true := hWait
    exact hCaptured.congr_regs fun a => by simp [hWait']
  · have hWait' : s.awaitingAck = false := eq_false_of_ne_true hWait
    refine .of_regFile rfl fun a => ?_
    rw [setFb_reg_at _ _ _ _ (show s.sampleRssi.rx.len.toNat - 1 < 128 from Nat.lt_of_le_of_lt (Nat.sub_le _ _) h),
      hCaptured.reg_eq]
    simp only [hWait', true_and]
    rfl

/-- The second CRC byte has its place in the frame buffer, where it goes there (R250). -/
abbrev State.CrcFits (s : State) : Prop := s.awaitingAck = false → s.rx.len.toNat < 128

/-- `s` with the verdict of the second CRC byte stored and the cursor scanning again, its end still to come (R250, R251). -/
def State.frameChecked (s : State) (b : Byte) : State := (s.crcCheck b).setRxCursor .sfdScan

/-- Setting RX_CRC_VALID over a fresh sample (10_state.md R28). -/
theorem rssi_marked (v : Byte) (d : BitVec 5) :
    ((v &&& 0xE0#8) ||| d.setWidth 8) &&& 0x7F#8 = (v &&& 0x60#8) ||| d.setWidth 8 := by
  apply ext_bit
  intro i hi
  interval_cases i <;> simp [bit]

theorem sampleRssi_markCrc_reg (s : State) (ok : Bool) (a : Nat) :
    (s.sampleRssi.markCrc ok).reg a =
      if a = Addr.phyRssi then (s.reg a &&& 0x60#8) ||| s.rssiDraw.setWidth 8 ||| (if ok then 0x80#8 else 0#8)
      else s.reg a := by
  rw [markCrc_reg, bit7_eq, sampleRssi_reg, sampleRssi_reg]
  split_ifs with h
  all_goals simp [State.heardRegs, h, rssi_marked]

/-- The registers after the CRC check, where the frame buffer has room for the byte that goes there. -/
theorem crcCheck_reg_of_fits (s : State) (b : Byte) (hFits : s.CrcFits) (a : Nat) :
    (s.crcCheck b).reg a =
      if s.awaitingAck = false ∧ a = 0x180 + s.rx.len.toNat then b else (s.markCrc (s.crcMatches b)).reg a := by
  cases hWait : s.awaitingAck with
  | true =>
    have hMarked : s.crcCheck b = s.markCrc (s.crcMatches b) := if_pos hWait
    simp [hMarked]
  | false => rw [crcCheck_reg s b a (hFits hWait), hWait]

theorem frameChecked_reg (s : State) (b : Byte) (hFits : s.CrcFits) (a : Nat) :
    (s.sampleRssi.frameChecked b).reg a = s.frameRegs b a := by
  rw [State.frameChecked, setRxCursor_reg, crcCheck_reg_of_fits s.sampleRssi b hFits, sampleRssi_markCrc_reg]
  rfl

/-- The description of the state in which the frame's end begins. -/
theorem frameChecked_answers (s : State) (b : Byte) (hFits : s.CrcFits) :
    Answers (.next (s.sampleRssi.frameChecked b)) (s.frameTaken b) (s.frameRegs b) := by
  refine .of_regFile ?_ (frameChecked_reg s b hFits)
  rw [State.frameChecked, crcCheck_like]
  rfl

/-! ### The end of a frame (R251, R252, R258) -/

@[simp] theorem frameChecked_awaitingAck (s : State) (b : Byte) : (s.frameChecked b).awaitingAck = s.awaitingAck := by
  rw [State.frameChecked, crcCheck_like]
  rfl

@[simp] theorem frameChecked_rx (s : State) (b : Byte) : (s.frameChecked b).rx = { s.rx with st := .sfdScan } := by
  rw [State.frameChecked, crcCheck_like]
  rfl

theorem crcByte2_eq (s : State) (b : Byte) :
    s.crcByte2 b =
      if s.awaitingAck then (s.frameChecked b).ackFrameEnd
      else if s.rx.filter = .reject then (s.frameChecked b).returnToListen
      else (s.frameChecked b).acceptedEnd := by
  have hEnd : s.crcByte2 b =
      if (s.frameChecked b).awaitingAck then (s.frameChecked b).ackFrameEnd
      else if (s.frameChecked b).rx.filter = .reject then (s.frameChecked b).returnToListen
      else (s.frameChecked b).acceptedEnd := rfl
  rw [hEnd, frameChecked_awaitingAck, frameChecked_rx]

theorem post_ackWanted (s : State) (l : IrqLine) : (s.post l).ackWanted = s.ackWanted := by
  rw [State.ackWanted, State.ackDisabled, post_reg_other s l (by decide)]
  rfl

theorem post_ackTurn (s : State) (l : IrqLine) : (s.post l).ackTurn = s.ackTurn := by
  rw [State.ackTurn, State.fastAck, post_reg_other s l (by decide)]
  rfl

theorem acceptedEnd_wanted (h : s.ackWanted = true) :
    s.acceptedEnd = State.schedule { s.post .rxEnd with sendAck := true } .ackTrigger s.ackTurn := by
  rw [← post_ackTurn s .rxEnd]
  exact if_pos ((post_ackWanted s .rxEnd).trans h)

theorem acceptedEnd_unwanted (h : s.ackWanted = false) : s.acceptedEnd = (s.post .rxEnd).returnToListen :=
  if_neg (by rw [post_ackWanted, h]; simp)

/-- A right ACK ends the wait and the Receiver, then the sequence like a sent frame that asked for none (R258, R210). -/
theorem ackFrameEnd_right (hSeq : s.rx.seqOk = true) (hCrc : s.lastCrcOk = true) :
    s.ackFrameEnd = (State.cancel { s with awaitingAck := false } .ackTimeout).stopRx.transmittedInto .txAretOn :=
  if_pos (by rw [hSeq, hCrc]; rfl)

theorem ackFrameEnd_wrong (h : s.rx.seqOk = false ∨ s.lastCrcOk = false) : s.ackFrameEnd = s.schedule .ackTimeout 0 := by
  obtain h | h := h <;> simp [State.ackFrameEnd, h]

/-- What every end of a frame leaves: it decides no verdict, draws nothing, and changes status registers only. -/
structure EndLeaves (s t : State) : Prop where
  st : t.rx.st = .sfdScan
  crcOk : t.lastCrcOk = s.lastCrcOk
  env : t.env = s.env
  regs : ∀ a ∉ [Addr.trxStatus, Addr.trxState, Addr.irqStatus], t.reg a = s.reg a

theorem EndLeaves.returnToListen (h : EndLeaves s t) : EndLeaves s t.returnToListen where
  st := h.st
  crcOk := h.crcOk
  env := h.env
  regs a ha := by rw [returnToListen_reg, if_neg (by simp_all), h.regs a ha]

theorem EndLeaves.post (h : EndLeaves s t) (l : IrqLine) : EndLeaves s (t.post l) where
  st := h.st
  crcOk := h.crcOk
  env := h.env
  regs a ha := by rw [post_reg_other t l (by simp_all), h.regs a ha]

theorem acceptedEnd_leaves (h : s.rx.st = .sfdScan) : EndLeaves s s.acceptedEnd := by
  have hPosted : EndLeaves s (s.post .rxEnd) := EndLeaves.post ⟨h, rfl, rfl, fun _ _ => rfl⟩ _
  cases hWanted : s.ackWanted with
  | true =>
    rw [acceptedEnd_wanted hWanted]
    exact ⟨hPosted.st, hPosted.crcOk, hPosted.env, hPosted.regs⟩
  | false =>
    rw [acceptedEnd_unwanted hWanted]
    exact hPosted.returnToListen

theorem ackFrameEnd_leaves (h : s.rx.st = .sfdScan) : EndLeaves s s.ackFrameEnd := by
  by_cases hRight : s.rx.seqOk = true ∧ s.lastCrcOk = true
  · obtain ⟨hSeq, hCrc⟩ := hRight
    rw [ackFrameEnd_right hSeq hCrc]
    constructor <;> simp +contextual [State.transmittedInto, h]
  · rw [ackFrameEnd_wrong (by simpa [-not_and, not_and_or] using hRight)]
    exact ⟨h, rfl, rfl, fun _ _ => rfl⟩

theorem crcByte2_leaves (s : State) (b : Byte) : EndLeaves (s.frameChecked b) (s.crcByte2 b) := by
  have hScan : (s.frameChecked b).rx.st = .sfdScan := by rw [frameChecked_rx]
  rw [crcByte2_eq]
  split_ifs
  · exact ackFrameEnd_leaves hScan
  · exact EndLeaves.returnToListen ⟨hScan, rfl, rfl, fun _ _ => rfl⟩
  · exact acceptedEnd_leaves hScan

/-- Apart from the status registers the second CRC byte leaves what the check stored. -/
theorem crcByte2_reg (s : State) (b : Byte) (hFits : s.CrcFits) {a : Nat}
    (ha : a ∉ [Addr.trxStatus, Addr.trxState, Addr.irqStatus]) : (s.sampleRssi.crcByte2 b).reg a = s.frameRegs b a :=
  ((crcByte2_leaves s.sampleRssi b).regs a ha).trans (frameChecked_reg s b hFits a)

/-- The frame buffer lies above the registers (20_memory.md R80). -/
theorem fb_ne {a k : Nat} (h : a < 0x180) : 0x180 + k ≠ a := by omega

/-- The frame buffer holds no status register. -/
theorem fb_notMem_status (k : Nat) : 0x180 + k ∉ [Addr.trxStatus, Addr.trxState, Addr.irqStatus] := by
  have hBelow : ∀ a ∈ [Addr.trxStatus, Addr.trxState, Addr.irqStatus], a < 0x180 := by decide
  exact fun hm => Nat.not_lt.mpr (Nat.le_add_right _ k) (hBelow _ hm)

/-- The check touches no configuration register. -/
theorem frameRegs_of_config (s : State) (b : Byte) {a : Nat} (hFb : a < 0x180) (hRssi : a ≠ Addr.phyRssi) :
    s.frameRegs b a = s.reg a := by
  have hOther : ¬ (s.awaitingAck = false ∧ a = 0x180 + s.rx.len.toNat) := by omega
  rw [State.frameRegs, if_neg hOther, if_neg hRssi]

theorem withStatus_posted (f : Nat → Byte) (m c : Byte) (a : Nat) :
    withStatus (posted f m) c a = posted (withStatus f c) m a := by
  unfold withStatus posted
  split_ifs <;> simp_all

/-- An accepted frame that wants no ACK (R252). -/
theorem Answers.acceptedEnd_unwanted (h : Answers (.next t) u f) (hWanted : t.ackWanted = false)
    (hRow : (u.opState, x, code) ∈ listenRows) (hMask : f Addr.irqMask = u.reg Addr.irqMask)
    (hStatus : f Addr.irqStatus = u.reg Addr.irqStatus) :
    Answers (.next t.acceptedEnd) (State.entering { u with outputs := u.outputs ++ u.rise .rxEnd } x 3)
      (posted (withStatus f code) 0x08#8) := by
  rw [Machine.acceptedEnd_unwanted hWanted]
  exact ((h.post .rxEnd hMask hStatus).returnToListen hRow).congr_regs (withStatus_posted f _ _)

/-- An accepted frame that wants one (R252 to R254). -/
theorem Answers.acceptedEnd_wanted (h : Answers (.next t) u f) (hWanted : t.ackWanted = true)
    (hMask : f Addr.irqMask = u.reg Addr.irqMask) (hStatus : f Addr.irqStatus = u.reg Addr.irqStatus) :
    Answers (.next t.acceptedEnd)
      (State.schedule { u with outputs := u.outputs ++ u.rise .rxEnd, sendAck := true } .ackTrigger t.ackTurn)
      (posted f 0x08#8) := by
  rw [Machine.acceptedEnd_wanted hWanted]
  exact (h.post .rxEnd hMask hStatus).map fun s => State.schedule { s with sendAck := true } .ackTrigger t.ackTurn

/-- A right ACK (R258). -/
theorem Answers.ackFrameEnd_right (h : Answers (.next t) u f) (hSeq : t.rx.seqOk = true) (hCrc : t.lastCrcOk = true)
    (hActive : u.rx.active = true) (hMask : f Addr.irqMask = u.reg Addr.irqMask)
    (hStatus : f Addr.irqStatus = u.reg Addr.irqStatus) :
    Answers (.next t.ackFrameEnd)
      { u.entering .txAretOn 2 with
        rx := { u.rx with active := false, st := .sfdScan }
        awaitingAck := false
        aretActive := false
        pending := { u.pending with ackTimeout := none }
        outputs := u.outputs ++ [.endReceive, .powerMode 2, .probe u.opState .txAretOn] ++ u.rise .txEnd }
      (fun a =>
        if a = Addr.trxState then f a &&& 0x1F#8
        else if a = Addr.trxStatus then (f a &&& 0xE0#8) ||| 0x19#8
        else if a = Addr.irqStatus then f a ||| 0x40#8
        else f a) := by
  have hStopped := ((h.map fun s => { s with awaitingAck := false }).cancel .ackTimeout).stopRx
  have hRise : (State.stopRx (State.cancel { u with awaitingAck := false } .ackTimeout)).rise .txEnd = u.rise .txEnd :=
    rise_congr (stopRx_reg _ _) (stopRx_reg _ _)
  have hEnded := hStopped.transmittedInto (.inr rfl) (by simpa using hMask) (by simpa using hStatus)
  rw [Machine.ackFrameEnd_right hSeq hCrc]
  refine hEnded.congr_state (like_of_fields ?_)
  rw [hRise]
  simp [State.entering, Pending.set, hActive]

/-! What the end of a frame reads of the state it begins in. -/

@[simp] theorem frameChecked_lastCrcOk (s : State) (b : Byte) : (s.sampleRssi.frameChecked b).lastCrcOk = s.crcOk b := by
  rw [State.frameChecked, crcCheck_like]
  rfl

theorem frameChecked_config (s : State) (b : Byte) (hFits : s.CrcFits) {a : Nat} (hFb : a < 0x180) (hRssi : a ≠ Addr.phyRssi) :
    (s.sampleRssi.frameChecked b).reg a = s.reg a := by
  rw [frameChecked_reg s b hFits, frameRegs_of_config s b hFb hRssi]

theorem frameChecked_ackWanted (s : State) (b : Byte) (hFits : s.CrcFits) :
    (s.sampleRssi.frameChecked b).ackWanted =
      (s.crcOk b && s.rx.ackReq && decide (s.opState = .busyRxAack) && !bit (s.reg Addr.csmaSeed1) 4) := by
  rw [State.ackWanted, State.ackDisabled, frameChecked_config s b hFits (by decide) (by decide), frameChecked_lastCrcOk,
    frameChecked_rx, (frameChecked_answers s b hFits).opState_eq]
  rfl

theorem frameChecked_ackTurn (s : State) (b : Byte) (hFits : s.CrcFits) :
    (s.sampleRssi.frameChecked b).ackTurn =
      if bit (s.reg Addr.xahCtrl1) 2 then s.params.tAckTurnFast else s.params.tAckTurn := by
  rw [State.ackTurn, State.fastAck, frameChecked_config s b hFits (by decide) (by decide), State.frameChecked, crcCheck_like]
  rfl

/-- RX_CRC_VALID (10_state.md R57). -/
theorem frameRegs_valid (s : State) (b : Byte) : bit (s.frameRegs b Addr.phyRssi) 7 = s.crcOk b := by
  have hOther : ¬ (s.awaitingAck = false ∧ Addr.phyRssi = 0x180 + s.rx.len.toNat) :=
    fun ⟨_, hPlace⟩ => fb_ne (by decide) hPlace.symm
  rw [State.frameRegs, if_neg hOther, if_pos rfl]
  cases s.crcOk b <;> simp [bit]

/-- The frame buffer after the second CRC byte. -/
theorem frameRegs_fb (s : State) (b : Byte) (k : Nat) :
    s.frameRegs b (0x180 + k) =
      if s.awaitingAck = false ∧ k = s.rx.len.toNat then b else s.reg (0x180 + k) := by
  have hRssi : 0x180 + k ≠ Addr.phyRssi := fb_ne (by decide)
  rw [State.frameRegs, if_neg hRssi]
  simp

/-! ### The ACK trigger (R255) -/

theorem onAckTrigger_sends (hSend : s.sendAck = true) (hS : s.opState = .busyRxAack) :
    s.onAckTrigger = (State.stopRx { s with sendAck := false }).startTx .ack := by
  simp [State.onAckTrigger, hSend, hS]

theorem onAckTrigger_returns (hSend : s.sendAck = false) (hS : s.opState = .busyRxAack) (h : s.rx.st.inProgress = false) :
    s.onAckTrigger = s.setState .rxAackOn := by
  simp [State.onAckTrigger, hSend, hS, h]

theorem onAckTrigger_nothing (h : s.opState ≠ .busyRxAack ∨ s.sendAck = false ∧ s.rx.st.inProgress = true) :
    s.onAckTrigger = s := by
  obtain h | ⟨hSend, h⟩ := h <;> simp [State.onAckTrigger, *]

end

/-! ### The sample of a delivery stands (R244) -/

/-- `t` has the RSSI sample and the Environment of `s`. -/
structure SampleStays (s t : State) : Prop where
  rssi : field (t.reg Addr.phyRssi) 0 5 = field (s.reg Addr.phyRssi) 0 5 := by rfl
  env : t.env = s.env := by rfl

section
variable {s t u : State}

theorem SampleStays.ite {c : Prop} [Decidable c] (ht : SampleStays s t) (hu : SampleStays s u) :
    SampleStays s (if c then t else u) := by
  split
  · exact ht
  · exact hu

/-- An operation that neither writes PHY_RSSI nor draws. -/
theorem SampleStays.elsewhere (h : SampleStays s t) (hReg : u.reg Addr.phyRssi = t.reg Addr.phyRssi)
    (hEnv : u.env = t.env := by rfl) : SampleStays s u :=
  ⟨by rw [hReg, h.rssi], hEnv.trans h.env⟩

theorem SampleStays.setReg (h : SampleStays s t) {a : Nat} (v : Byte) (ha : Addr.phyRssi ≠ a) :
    SampleStays s (t.setReg a v) :=
  h.elsewhere (by rw [setReg_reg, if_neg ha])

theorem SampleStays.setFb (h : SampleStays s t) (i : BitVec 7) (v : Byte) : SampleStays s (t.setFb i v) :=
  h.setReg v (fb_ne (by decide)).symm

theorem SampleStays.setState (h : SampleStays s t) (x : OpState) : SampleStays s (t.setState x) :=
  h.elsewhere (by rw [setState_reg]; rfl)

theorem SampleStays.post (h : SampleStays s t) (l : IrqLine) : SampleStays s (t.post l) :=
  h.elsewhere (post_reg_other t l (by decide))

theorem lockLost_sample (s : State) : SampleStays s s.lockLost :=
  .ite (.ite {} {}) (.ite (.setState {} _) {})

theorem sfdMatch_sample (s : State) : SampleStays s s.sfdMatch :=
  have hBegun : SampleStays s s.frameBegun := .setReg {} _ (by decide)
  .ite {} (.ite hBegun ((hBegun.setState _).post _))

theorem sync_sample (s : State) (b : Byte) : SampleStays s (s.sync b) :=
  .ite (.ite {} {}) (.ite (sfdMatch_sample s) (.ite {} {}))

theorem lengthByte_sample (s : State) (b : Byte) : SampleStays s (s.lengthByte b) :=
  .ite (.ite {} (.setState {} _)) (.ite {} (.setReg (.setFb {} _ _) _ (by decide)))

theorem payloadByte_sample (s : State) (b : Byte) : SampleStays s (s.payloadByte b) := by
  have hAdvanced {t : State} (h : SampleStays s t) (p : Nat) : SampleStays s (t.packetAdvanced p) :=
    .ite (h.elsewhere rfl) h
  cases hWait : s.awaitingAck with
  | true =>
    rw [payloadByte_waiting hWait]
    exact hAdvanced (.ite (.ite {} {}) {}) _
  | false =>
    have hMatched := addressMatch_leaves (s.payloadRecorded b) b (s.rx.pos + 1)
    have hRecorded : SampleStays s (s.payloadRecorded b) := .setFb {} _ _
    rw [payloadByte_listening hWait]
    exact hAdvanced (hRecorded.elsewhere (hMatched.regs _ (by decide)) hMatched.env) _

theorem crcByte1_sample (s : State) (b : Byte) : SampleStays s (s.crcByte1 b) := .ite {} (.setFb {} _ b)

/-- RX_CRC_VALID lies above the sample. -/
theorem markCrc_sample (s : State) (ok : Bool) : SampleStays s (s.markCrc ok) where
  rssi := by
    rw [markCrc_reg, if_pos rfl, field_cat_low _ _ _ _ _ (by decide) (by decide), field_field _ _ _ _ _ (by decide)]

theorem crcByte2_sample (s : State) (b : Byte) : SampleStays s (s.crcByte2 b) := by
  have hMarked := markCrc_sample s (s.crcMatches b)
  have hChecked : SampleStays s (s.crcCheck b) := .ite hMarked (hMarked.setFb _ b)
  have hEnd := crcByte2_leaves s b
  exact hChecked.elsewhere (hEnd.regs _ (by decide)) hEnd.env

theorem receiveByte_sample (s : State) (b : Byte) : SampleStays s (s.receiveByte b) := by
  unfold State.receiveByte
  split
  · exact sync_sample s b
  · exact sync_sample s b
  · exact lengthByte_sample s b
  · exact payloadByte_sample s b
  · exact crcByte1_sample s b
  · exact crcByte2_sample s b
  · exact {}

end

end Sys2Proof.Machine

section
open Sys2Proof Sys2Proof.Machine

/-- Settles O33: the sample is drawn and stored first; what the byte then does leaves it (`receiveByte_sample`,
`lockLost_sample`). -/
theorem deliveriesSampleRssi : Obligations.DeliveriesSampleRssi := by
  unfold Obligations.DeliveriesSampleRssi
  intro i b s hInput
  refine ⟨fun hStopped => ?stopped, fun hActive => ?started⟩
  case stopped =>
    have hNothing (locked : Bool) : s.deliver locked b = s := if_neg (by simp [hStopped])
    obtain rfl | rfl := hInput <;> exact congrArg Host.Outcome.next (hNothing _)
  case started =>
    have hSample {t : State} (h : SampleStays s.sampleRssi t) :
        field (t.reg Addr.phyRssi) 0 5 = s.rssiDraw ∧ t.env = s.env.afterRssi :=
      ⟨h.rssi.trans (sampleRssi_rssi s), h.env⟩
    obtain rfl | rfl := hInput
    · exact ⟨_, exec_rxbL s b hActive, hSample (receiveByte_sample _ b)⟩
    · exact ⟨_, exec_rxbU s b hActive, hSample (lockLost_sample _)⟩

/-- Settles O34: outside a frame only the cursor moves; mid-frame the two branches of R243 follow. -/
theorem lockLoss : Obligations.LockLoss := by
  unfold Obligations.LockLoss
  intro b s hActive
  have hHeard := heard_answers s .sfdScan
  rw [exec_rxbU s b hActive]
  refine ⟨fun hCursor => ?outside, fun hCursor => ?inFrame⟩
  case outside =>
    rw [lockLost_outside (s := s.sampleRssi) hCursor]
    exact hHeard
  case inFrame =>
    have hFrame := (inProgress_iff _).mpr hCursor
    refine ⟨fun hWait => ?waiting, fun x code hWait hRow => ?listening⟩
    case waiting =>
      rw [lockLost_waiting (s := s.sampleRssi) hFrame hWait]
      exact hHeard.timeoutNow
    case listening =>
      rw [lockLost_listening (s := s.sampleRssi) hFrame hWait]
      exact hHeard.returnToListen hRow

/-- Settles O35: the branches of the scan, each on the cursor it starts from. -/
theorem sfdScan : Obligations.SfdScan := by
  unfold Obligations.SfdScan
  intro b s hActive
  refine ⟨fun hCursor => ?scan, fun hCursor hb => ?matched, fun hCursor hb => ?sfd⟩
  case scan =>
    rw [exec_rxbL_sfdScan b hActive hCursor, sync_sfdScan (s := s.sampleRssi) hCursor]
    exact heard_answers s _
  case matched =>
    rw [exec_rxbL_sfdMatched1 b hActive hCursor, sync_sfdMatched1 (s := s.sampleRssi) hCursor hb]
    exact heard_answers s _
  case sfd => rw [exec_rxbL_sfdMatched1 b hActive hCursor, hb, sync_sfd (s := s.sampleRssi) hCursor]

/-- Settles O36: the match is run on the state with the fresh sample, whose threshold decides (`sampleRssi_matchSuppressed`). -/
theorem sfdMatch : Obligations.SfdMatch := by
  unfold Obligations.SfdMatch
  intro s suppressed hActive hCursor hSuppressed
  rw [← sampleRssi_matchSuppressed] at hSuppressed
  rw [exec_rxbL_sfdMatched1 _ hActive hCursor, sync_sfd (s := s.sampleRssi) hCursor]
  refine ⟨fun h => ?suppressed, fun h u f hu hf => ?starts⟩
  case suppressed =>
    rw [sfdMatch_suppressed (hSuppressed.symm.trans h)]
    exact heard_answers s .sfdScan
  case starts =>
    have hFree := hSuppressed.symm.trans h
    have hBegun := frameBegun_answers s
    subst hu hf
    refine ⟨fun hWait => ?waiting, fun x code hWait hRow => ?listening⟩
    case waiting =>
      rw [sfdMatch_waiting hFree (by exact hWait)]
      exact hBegun
    case listening =>
      rw [sfdMatch_listening hFree (by exact hWait)]
      exact (hBegun.enterBusy hRow).post .rxStart rfl rfl

/-- Settles O37: a dropped length ends the frame as R247 says, in and outside an ACK wait; another is taken
(`lengthByte_kept_answers`). -/
theorem lengthByte : Obligations.LengthByte := by
  unfold Obligations.LengthByte
  intro b len s hActive hCursor hLen
  have hHeard := heard_answers s .sfdScan
  rw [exec_rxbL_sfdMatched2 b hActive hCursor]
  refine ⟨fun hShort hWait => ?droppedWaiting, fun x code hShort hWait hRow => ?droppedListening, fun hKept => ?kept⟩
  case droppedWaiting =>
    rw [lengthByte_dropped (hLen ▸ hShort), sampleRssi_awaitingAck, if_pos hWait]
    exact hHeard
  case droppedListening =>
    rw [lengthByte_dropped (hLen ▸ hShort), sampleRssi_awaitingAck, if_neg (Bool.not_eq_true _ ▸ hWait)]
    exact hHeard.returnToListen hRow
  case kept => exact lengthByte_kept_answers s hLen hKept

/-- Settles O38: the matcher leaves the byte as recorded (`payloadByte_unchecked`), at a position inside the frame buffer. -/
theorem payloadByteTaken : Obligations.PayloadByteTaken := by
  unfold Obligations.PayloadByteTaken
  rintro b s ⟨-, -, hInPacket, -⟩ ⟨hActive, hCursor, hWait⟩ hUnchecked
  have hInside := hInPacket hCursor
  rw [exec_rxbL_inPacket b hActive hCursor, payloadByte_unchecked (s := s.sampleRssi) hCursor hWait hUnchecked]
  exact payloadRecorded_answers s b (by omega)

/-- Settles O41: the byte is counted; at position 3 the two branches of R257 follow. -/
theorem payloadByteInAckWait : Obligations.PayloadByteInAckWait := by
  unfold Obligations.PayloadByteInAckWait
  intro b s u hActive hCursor hWait hu
  subst hu
  have hCounted := payloadCounted_answers s b
  rw [exec_rxbL_inPacket b hActive hCursor]
  refine ⟨fun hPos => ?elsewhere, fun hPos hSeq => ?same, fun hPos hSeq => ?other⟩
  case elsewhere =>
    rw [payloadByte_counted (s := s.sampleRssi) hCursor hWait hPos]
    exact hCounted.setRxCursor _
  case same =>
    rw [payloadByte_ackSeq (s := s.sampleRssi) hWait hPos, ackSeqCheck_same (by exact hSeq),
      packetAdvanced_inPacket (by exact hCursor)]
    exact (hCounted.map fun s => { s with rx := { s.rx with seqOk := true } }).setRxCursor _
  case other =>
    rw [payloadByte_ackSeq (s := s.sampleRssi) hWait hPos, ackSeqCheck_other (by exact hSeq),
      packetAdvanced_givenUp (by rfl)]
    exact (hCounted.setRxCursor .sfdScan).timeoutNow

/-- Settles O42: the first byte is captured (`crcByte1_answers`); after the second the verdict and the frame buffer stand whatever
the end of the frame does (`crcByte2_leaves`). -/
theorem crcBytesTaken : Obligations.CrcBytesTaken := by
  unfold Obligations.CrcBytesTaken
  rintro b s ⟨-, -, -, hAtCrc, -⟩ hActive
  refine ⟨fun hCursor => ?first, fun hCursor => ?second⟩
  case first =>
    have hLen := hAtCrc (.inl hCursor)
    rw [exec_rxbL_crc1 b hActive hCursor]
    exact crcByte1_answers s b (by omega)
  case second =>
    have hLen := hAtCrc (.inr hCursor)
    have hEnd := crcByte2_leaves s.sampleRssi b
    have hFits : s.CrcFits := fun _ => by omega
    have hCrcOk : (s.sampleRssi.crcByte2 b).lastCrcOk = s.crcOk b := hEnd.crcOk.trans (frameChecked_lastCrcOk s b)
    refine ⟨_, exec_rxbL_crc2 b hActive hCursor, hEnd.st, ?verdict, ?mirror, fun i => ?buffer⟩
    case verdict => simp [hCrcOk, State.crcOk]
    case mirror => rw [crcByte2_reg s b hFits (by decide), hCrcOk, frameRegs_valid]
    case buffer => rw [crcByte2_reg s b hFits (fb_notMem_status _), frameRegs_fb]

/-- Settles O43: the second CRC byte's end by the verdict of the address matcher (`crcByte2_eq`), an accepted frame's by
`ackWanted()`. -/
theorem receptionEnds : Obligations.ReceptionEnds := by
  unfold Obligations.ReceptionEnds
  rintro b s u x code wanted ⟨-, -, -, hAtCrc, -⟩ hActive hCursor hWait hRow rfl hWanted
  have hLen := hAtCrc (.inr hCursor)
  have hChecked := frameChecked_answers s b fun _ => by omega
  have hMask : s.frameRegs b Addr.irqMask = s.reg Addr.irqMask := frameRegs_of_config s b (by decide) (by decide)
  have hStatus : s.frameRegs b Addr.irqStatus = s.reg Addr.irqStatus := frameRegs_of_config s b (by decide) (by decide)
  have hAsked := (frameChecked_ackWanted s b fun _ => by omega).trans hWanted.symm
  rw [exec_rxbL_crc2 b hActive hCursor, crcByte2_eq, if_neg (by simp [hWait])]
  refine ⟨fun hFilter => ?rejected, fun hFilter hNone => ?unwanted, fun hFilter hSome => ?wanted⟩
  case rejected =>
    rw [if_pos (by exact hFilter)]
    exact hChecked.returnToListen hRow
  case unwanted =>
    rw [if_neg (by exact hFilter)]
    exact hChecked.acceptedEnd_unwanted (hAsked.trans hNone) hRow hMask hStatus
  case wanted =>
    rw [if_neg (by exact hFilter)]
    have hAcked := hChecked.acceptedEnd_wanted (hAsked.trans hSome) hMask hStatus
    rwa [frameChecked_ackTurn s b fun _ => by omega] at hAcked

/-- Settles O44: the check's answers (`frameChecked_answers`) carried through the two ends of a candidate ACK. -/
theorem candidateAckEnds : Obligations.CandidateAckEnds := by
  unfold Obligations.CandidateAckEnds
  rintro b s u hActive hCursor hWait rfl
  have hChecked := frameChecked_answers s b (by simp [hWait])
  have hReg {a : Nat} (hFb : a < 0x180) (hRssi : a ≠ Addr.phyRssi) := frameRegs_of_config s b hFb hRssi
  rw [exec_rxbL_crc2 b hActive hCursor, crcByte2_eq, if_pos (by simp [hWait])]
  refine ⟨fun hSeq hCrc => ?right, fun hWrong => ?wrong⟩
  case right =>
    have hEnded := hChecked.ackFrameEnd_right (by rwa [frameChecked_rx]) (by rwa [frameChecked_lastCrcOk]) hActive
      (hReg (by decide) (by decide)) (hReg (by decide) (by decide))
    refine hEnded.congr_regs fun a => ?_
    split_ifs with ha ha ha
    case neg => rfl
    all_goals rw [ha, hReg (by decide) (by decide)]
  case wrong =>
    rw [ackFrameEnd_wrong (by rwa [frameChecked_rx, frameChecked_lastCrcOk])]
    exact hChecked.timeoutNow

/-- Settles O45: the branches of R255; a Transmitter is stopped while an ACK is wanted (10_state.md R59). -/
theorem ackTriggerFires : Obligations.AckTriggerFires := by
  unfold Obligations.AckTriggerFires
  rintro s u hSeq hDue rfl
  have hExec : exec .fireAckTrigger s = .next (s.cancel .ackTrigger).onAckTrigger := if_pos hDue
  have hCleared := (answers_self s).cancel .ackTrigger
  rw [hExec]
  refine ⟨fun hSend hS => ?sends, fun hSend hS hCursor => ?returns, fun h => ?nothing⟩
  case sends =>
    have hTx : s.tx.active = false := by
      obtain ⟨-, -, -, -, hAck, -⟩ := hSeq
      obtain ⟨-, hTx⟩ := hAck hSend
      exact hTx
    rw [onAckTrigger_sends (s := s.cancel .ackTrigger) hSend hS]
    refine ⟨.rxAlreadyStopped, .of_regFile (like_of_fields ?_) fun a => by simp⟩
    cases hRx : s.rx.active <;>
      simp [startTx_tx_stopped, startTx_outputs_stopped, hTx, hRx, Pending.set, State.freshTx, State.beginOutput, State.txPwr,
        State.channel, Params.lead]
  case returns =>
    have hOutside : s.rx.st.inProgress = false := by obtain h | h := hCursor <;> rw [h] <;> rfl
    rw [onAckTrigger_returns (s := s.cancel .ackTrigger) hSend hS hOutside]
    exact hCleared.setState .rxAackOn
  case nothing =>
    rw [onAckTrigger_nothing (s := s.cancel .ackTrigger) (h.imp_right (And.imp_right (inProgress_iff _).mpr))]
    exact hCleared

end

namespace Sys2Proof.Machine

/-! ### A whole frame in RX_ON

`s` is the state the frame starts in. What the frame leaves in the frame buffer is followed byte by byte. -/

section
variable {s t u : State} {f : Nat → Byte} {bs held : List Byte} {b len : Byte}

/-- The bytes `bs`, delivered locked, lead from `s` to `t`. -/
abbrev State.Receives (s : State) (bs : List Byte) (t : State) : Prop := runInputs (bs.map .rxbL) s = some t

theorem State.Receives.append {bs' : List Byte} (h : s.Receives bs t) (h' : t.Receives bs' u) : s.Receives (bs ++ bs') u := by
  rw [State.Receives, List.map_append, runInputs_append, h]
  exact h'

theorem receives_one (h : exec (.rxbL b) s = .next t) : s.Receives [b] t := by
  simp [State.Receives, runInputs, h]

/-- The next state of a described delivery: the described one over some Register File. -/
theorem Answers.receives (h : Answers (exec (.rxbL b) s) u f) :
    ∃ m, s.Receives [b] { u with regFile := m } ∧ ∀ a, State.reg { u with regFile := m } a = f a := by
  obtain ⟨t, hExec, ht, hf⟩ := h
  refine ⟨t.regFile, ?_, ?_⟩
  · rw [← ht]
    exact receives_one hExec
  · rwa [← ht]

/-- The frame buffer of `t` holds `held` from its start on, and past that what the one of `s` holds. -/
def BufferHolds (s t : State) (held : List Byte) : Prop :=
  ∀ k < 128, t.reg (0x180 + k) = held.getD k (s.reg (0x180 + k))

theorem BufferHolds.same (h : BufferHolds s t held) (hu : ∀ k, u.reg (0x180 + k) = t.reg (0x180 + k)) :
    BufferHolds s u held := fun k hk => (hu k).trans (h k hk)

/-- One more byte. -/
theorem BufferHolds.snoc (h : BufferHolds s t held)
    (hu : ∀ k, u.reg (0x180 + k) = if k = held.length then b else t.reg (0x180 + k)) : BufferHolds s u (held ++ [b]) := by
  intro k hk
  rw [hu]
  obtain hBefore | rfl | hPast := Nat.lt_trichotomy k held.length
  · rw [if_neg (by omega), h k hk, List.getD_append _ _ _ _ hBefore]
  · simp
  · rw [if_neg (by omega), h k hk, List.getD_eq_default _ _ (by omega), List.getD_eq_default _ _ (by simp; omega)]

theorem heardRegs_other (s : State) {a : Nat} (h : a ≠ Addr.phyRssi) : s.heardRegs a = s.reg a := if_neg h

theorem heardRegs_fb (s : State) (k : Nat) : s.heardRegs (0x180 + k) = s.reg (0x180 + k) :=
  heardRegs_other s (fb_ne (by decide))

/-! ### The synchronisation header -/

/-- `u` listens in RX_ON with nothing suppressed, its frame buffer still that of `s`. -/
structure Synchronising (s u : State) : Prop where
  active : u.rx.active = true
  noWait : u.awaitingAck = false
  opState : u.opState = .rxOn
  unsuppressed : u.reg Addr.rxSyn = 0x00#8
  buffer : BufferHolds s u []

/-- A preamble byte. -/
theorem Synchronising.zero (h : Synchronising s u) (hCursor : u.rx.st = .sfdScan ∨ u.rx.st = .sfdMatched1) :
    ∃ v, u.Receives [0x00#8] v ∧ Synchronising s v ∧ v.rx.st = .sfdMatched1 := by
  obtain ⟨hScan, hMatched, -⟩ := sfdScan 0x00#8 u h.active
  have hHeard : Answers (exec (.rxbL 0x00#8) u) (u.heard .sfdMatched1) u.heardRegs :=
    hCursor.elim hScan fun hc => hMatched hc (by decide)
  obtain ⟨m, hRun, hReg⟩ := hHeard.receives
  refine ⟨_, hRun, ⟨h.active, h.noWait, h.opState, ?_, h.buffer.same fun k => ?_⟩, rfl⟩
  · rw [hReg, heardRegs_other u (by decide), h.unsuppressed]
  · rw [hReg, heardRegs_fb]

theorem Synchronising.preamble (h : Synchronising s u) (hCursor : u.rx.st = .sfdScan ∨ u.rx.st = .sfdMatched1) (n : Nat) :
    ∃ v, u.Receives (List.replicate (n + 1) 0x00#8) v ∧ Synchronising s v ∧ v.rx.st = .sfdMatched1 := by
  obtain ⟨v, hRun, hv, hMatched⟩ := h.zero hCursor
  induction n generalizing u v with
  | zero => exact ⟨v, hRun, hv, hMatched⟩
  | succ n ih =>
    obtain ⟨w, hNext, hw, hMatched'⟩ := hv.zero (.inr hMatched)
    obtain ⟨x, hRest, hx⟩ := ih hv (.inr hMatched) w hNext hw hMatched'
    exact ⟨x, hRun.append hRest, hx⟩

/-! ### The frame in progress -/

/-- `u` is in the middle of a frame begun in RX_ON, the bytes `held` in its frame buffer. -/
structure InFrame (s : State) (held : List Byte) (u : State) : Prop where
  active : u.rx.active = true
  noWait : u.awaitingAck = false
  opState : u.opState = .busyRx
  buffer : BufferHolds s u held

/-- Its length is known to be `len`. -/
structure Receiving (s : State) (len : Byte) (held : List Byte) (u : State) : Prop extends InFrame s held u where
  frameLen : u.rx.len = len
  lengthReg : u.reg Addr.tstRxLength = len

/-- The SFD. -/
theorem Synchronising.sfd (h : Synchronising s u) (hCursor : u.rx.st = .sfdMatched1) :
    ∃ v, u.Receives [0x7A#8] v ∧ InFrame s [] v ∧ v.rx.st = .sfdMatched2 ∧ v.rx.pos = 0 ∧ v.rx.crc = 0#16 := by
  obtain ⟨-, hStarts⟩ := sfdMatch u false h.active hCursor (by rw [h.unsuppressed]; simp [bit, field])
  obtain ⟨-, hBegun⟩ := hStarts rfl _ _ rfl rfl
  have hRow : (u.opState, OpState.busyRx, 0x01#8) ∈ busyRows := by rw [h.opState]; decide
  obtain ⟨m, hRun, hReg⟩ := (hBegun _ _ h.noWait hRow).receives
  refine ⟨_, hRun, ⟨h.active, h.noWait, rfl, h.buffer.same fun k => ?_⟩, rfl, rfl, rfl⟩
  rw [hReg, posted, if_neg (fb_ne (by decide)), withStatus, if_neg (fb_ne (by decide)), if_neg (fb_ne (by decide)),
    heardRegs_fb]

/-- The length byte. -/
theorem InFrame.lengthTaken (h : InFrame s [] u) (hCursor : u.rx.st = .sfdMatched2) (hMin : 2 ≤ len.toNat)
    (hMax : len.toNat < 128) :
    ∃ v, u.Receives [len] v ∧ Receiving s len [len] v ∧ v.rx.st = (if len.toNat = 2 then .crc1 else .inPacket) ∧
      v.rx.pos = u.rx.pos ∧ v.rx.crc = u.rx.crc := by
  have hMasked : len = len &&& 0x7F#8 := BitVec.eq_of_toNat_eq <| by
    rw [BitVec.toNat_and]
    exact (Nat.and_two_pow_sub_one_of_lt_two_pow (n := 7) hMax).symm
  obtain ⟨-, -, hKept⟩ := lengthByte len len u h.active hCursor hMasked
  obtain ⟨m, hRun, hReg⟩ := (hKept hMin).receives
  refine ⟨_, hRun, ⟨⟨h.active, h.noWait, h.opState, h.buffer.snoc fun k => ?_⟩, rfl, ?_⟩, rfl, rfl, rfl⟩
  · have hFirst : 0x180 + k = 0x180 ∨ 0x180 + k = 0x17B ↔ k = 0 := by omega
    rw [hReg, heardRegs_fb]
    simp only [h.noWait, true_and, hFirst]
    rfl
  · rw [hReg, if_pos ⟨h.noWait, .inr rfl⟩]

/-- One payload byte: stored after the length and those before it, and folded into the CRC. -/
theorem Receiving.payloadByte (h : Receiving s len held u) (hCursor : u.rx.st = .inPacket)
    (hPos : u.rx.pos + 1 = held.length) (hRoom : held.length < 128) (b : Byte) :
    ∃ v, u.Receives [b] v ∧ Receiving s len (held ++ [b]) v ∧
      v.rx.st = (if u.rx.pos + 3 = len.toNat then .crc1 else .inPacket) ∧ v.rx.pos = u.rx.pos + 1 ∧
      v.rx.crc = crc16Update u.rx.crc (rev8 b) := by
  have hLeaves := payloadByte_leaves (s := u.sampleRssi) hCursor h.noWait b
  have hRecorded := payloadRecorded_answers u b (by omega)
  obtain ⟨hActive, hNoWait, hState, hBuffer⟩ := h.toInFrame
  have hReg {a : Nat} (ha : a ≠ Addr.irqStatus) (hRssi : a ≠ Addr.phyRssi) :
      (u.sampleRssi.payloadByte b).reg a = if a = 0x180 + held.length then b else u.reg a := by
    rw [hLeaves.regs a ha, ← heardRegs_other u hRssi, ← hPos]
    exact hRecorded.reg_eq a
  refine ⟨_, receives_one (exec_rxbL_inPacket b hActive hCursor),
    ⟨⟨?active, ?noWait, ?state, hBuffer.snoc fun k => ?buffer⟩, ?len, ?lengthReg⟩, ?st, ?pos, ?crc⟩
  case active => exact (congrArg Rx.active hLeaves.rx).trans hActive
  case noWait => exact hLeaves.awaitingAck.trans hNoWait
  case state => exact hLeaves.opState.trans hState
  case buffer =>
    rw [hReg (fb_ne (by decide)) (fb_ne (by decide))]
    simp
  case len => exact (congrArg Rx.len hLeaves.rx).trans h.frameLen
  case lengthReg => rw [hReg (by decide) (by decide), if_neg (fb_ne (by decide)).symm, h.lengthReg]
  case st =>
    rw [← h.frameLen]
    exact congrArg Rx.st hLeaves.rx
  case pos => exact congrArg Rx.pos hLeaves.rx
  case crc => exact congrArg Rx.crc hLeaves.rx

theorem crcOf_snoc (bs : List Byte) (b : Byte) : crcOf (bs ++ [b]) = crc16Update (crcOf bs) (rev8 b) := by
  simp [crcOf]

/-- The payload bytes `rest` still to come after those of `got`, none where the frame is at its CRC already. -/
theorem Receiving.payload {got rest : List Byte} (h : Receiving s len (len :: got) u)
    (hCursor : u.rx.st = if rest = [] then .crc1 else .inPacket) (hPos : u.rx.pos = got.length)
    (hCrc : u.rx.crc = crcOf got) (hLen : len.toNat = (got ++ rest).length + 2) (hMax : len.toNat < 128) :
    ∃ v, u.Receives rest v ∧ Receiving s len (len :: (got ++ rest)) v ∧ v.rx.st = .crc1 ∧
      v.rx.crc = crcOf (got ++ rest) := by
  induction rest generalizing u got with
  | nil => exact ⟨u, rfl, by simpa using h, hCursor, by simpa using hCrc⟩
  | cons b rest ih =>
    simp only [List.length_append, List.length_cons] at hLen
    obtain ⟨v, hRun, hv, hCursor', hPos', hCrc'⟩ := h.payloadByte hCursor (by simp [hPos]) (by simp; omega) b
    have hLast : u.rx.pos + 3 = len.toNat ↔ rest = [] := by
      rw [← List.length_eq_zero_iff]
      omega
    obtain ⟨w, hRest, hw⟩ := ih (got := got ++ [b]) hv (by simpa [hLast] using hCursor') (by simp [hPos', hPos])
      (by rw [hCrc', hCrc, crcOf_snoc]) (by simp; omega)
    exact ⟨w, hRun.append hRest, by simpa using hw⟩

/-- The first CRC byte. -/
theorem Receiving.crcByte1 (h : Receiving s len held u) (hCursor : u.rx.st = .crc1) (hLen : len.toNat = held.length + 1)
    (hMax : len.toNat < 128) (b : Byte) :
    ∃ v, u.Receives [b] v ∧ Receiving s len (held ++ [b]) v ∧ v.rx.st = .crc2 ∧ v.rx.crc1 = b ∧
      v.rx.crc = u.rx.crc := by
  have hTaken := crcByte1_answers u b (by rwa [h.frameLen])
  rw [← exec_rxbL_crc1 b h.active hCursor] at hTaken
  obtain ⟨m, hRun, hReg⟩ := hTaken.receives
  refine ⟨_, hRun, ⟨⟨h.active, h.noWait, h.opState, h.buffer.snoc fun k => ?_⟩, h.frameLen, ?_⟩, rfl, rfl, rfl⟩
  · rw [hReg, h.frameLen, hLen, heardRegs_fb]
    simp [h.noWait]
  · rw [hReg, if_neg (fun ⟨_, hPlace⟩ => fb_ne (by decide) hPlace.symm), heardRegs_other u (by decide), h.lengthReg]

/-- In basic mode every end of a frame returns to RX_ON, accepted or not (R251, R252). -/
theorem crcByte2_basic (hWait : s.awaitingAck = false) (hS : s.opState = .busyRx) (b : Byte) :
    (s.crcByte2 b).opState = .rxOn ∧ (s.crcByte2 b).rx.active = s.rx.active := by
  have hS' : (s.frameChecked b).opState = .busyRx := by
    rw [State.frameChecked, crcCheck_like]
    exact hS
  have hUnwanted : (s.frameChecked b).ackWanted = false := by simp [State.ackWanted, hS']
  rw [crcByte2_eq, if_neg (by simp [hWait])]
  split_ifs
  · simp [hS', OpState.listen]
  · rw [acceptedEnd_unwanted hUnwanted]
    simp [hS', OpState.listen]

/-- The bytes of a frame up to the second of its CRC. -/
def airFrameBeforeLast (payload : List Byte) : List Byte :=
  List.replicate 4 0x00#8 ++ [0x7A#8] ++ [BitVec.ofNat 8 (payload.length + 2)] ++ payload ++
    [rev8 (field (crcOf payload) 8 8)]

theorem airFrame_eq (payload : List Byte) :
    airFrame payload = airFrameBeforeLast payload ++ [rev8 (field (crcOf payload) 0 8)] := by
  simp [airFrame, airFrameBeforeLast, List.replicate]

/-- From a Receiver listening in RX_ON these leave the length, the payload and the first CRC byte in the frame buffer. -/
theorem receiving_crcByte2 (hStart : Synchronising s s) (hCursor : s.rx.st = .sfdScan) {payload : List Byte}
    (hLen : len.toNat = payload.length + 2) (hMax : len.toNat < 128) :
    ∃ v, s.Receives (airFrameBeforeLast payload) v ∧
      Receiving s len (len :: payload ++ [rev8 (field (crcOf payload) 8 8)]) v ∧ v.rx.st = .crc2 ∧
      v.rx.crc1 = rev8 (field (crcOf payload) 8 8) ∧ v.rx.crc = crcOf payload := by
  have hByte : BitVec.ofNat 8 (payload.length + 2) = len := by rw [← hLen, BitVec.ofNat_toNat, BitVec.setWidth_eq]
  obtain ⟨v₁, hRun₁, h₁, hCursor₁⟩ := hStart.preamble (.inl hCursor) 3
  obtain ⟨v₂, hRun₂, h₂, hCursor₂, hPos₂, hCrc₂⟩ := h₁.sfd hCursor₁
  obtain ⟨v₃, hRun₃, h₃, hCursor₃, hPos₃, hCrc₃⟩ := h₂.lengthTaken hCursor₂ (by omega) hMax
  have hEmpty : len.toNat = 2 ↔ payload = [] := by
    rw [← List.length_eq_zero_iff]
    omega
  obtain ⟨v₄, hRun₄, h₄, hCursor₄, hCrc₄⟩ := h₃.payload (got := []) (rest := payload)
    (by simpa only [hEmpty] using hCursor₃) (hPos₃.trans hPos₂) (hCrc₃.trans hCrc₂) hLen hMax
  obtain ⟨v₅, hRun₅, h₅, hCursor₅, hByte₅, hCrc₅⟩ := h₄.crcByte1 hCursor₄ (by simpa using hLen) hMax
    (rev8 (field (crcOf payload) 8 8))
  refine ⟨v₅, ?_, h₅, hCursor₅, hByte₅, hCrc₅.trans hCrc₄⟩
  rw [airFrameBeforeLast, hByte]
  exact (((hRun₁.append hRun₂).append hRun₃).append hRun₄).append hRun₅

/-- The second CRC byte of a right frame. -/
theorem Receiving.crcByte2 (h : Receiving s len held u) (hCursor : u.rx.st = .crc2) (hLen : len.toNat = held.length)
    (hMax : len.toNat < 128) (hOk : u.crcOk b = true) :
    ∃ t, u.Receives [b] t ∧ t.lastCrcOk = true ∧ bit (t.reg Addr.phyRssi) 7 = true ∧ t.rx.active = true ∧
      t.rx.st = .sfdScan ∧ t.opState = .rxOn ∧ t.reg Addr.tstRxLength = len ∧ BufferHolds s t (held ++ [b]) := by
  obtain ⟨⟨hActive, hWait, hS, hBuffer⟩, hFrameLen, hLengthReg⟩ := h
  have hEnd := crcByte2_leaves u.sampleRssi b
  have hFits : u.CrcFits := fun _ => by rwa [hFrameLen]
  obtain ⟨hRxOn, hStillActive⟩ := crcByte2_basic (s := u.sampleRssi) hWait hS b
  refine ⟨_, receives_one (exec_rxbL_crc2 b hActive hCursor), ?_, ?_, hStillActive.trans hActive, hEnd.st, hRxOn, ?_,
    hBuffer.snoc fun k => ?_⟩
  · rw [hEnd.crcOk, frameChecked_lastCrcOk, hOk]
  · rw [crcByte2_reg u b hFits (by decide), frameRegs_valid, hOk]
  · rw [crcByte2_reg u b hFits (by decide), frameRegs_of_config u b (by decide) (by decide), hLengthReg]
  · rw [crcByte2_reg u b hFits (fb_notMem_status k), frameRegs_fb, hFrameLen, hLen]
    simp [hWait]

end

end Sys2Proof.Machine

section
open Sys2Proof Sys2Proof.Machine

/-- Settles O46: the frame is followed part by part (`receiving_crcByte2`); its second CRC byte finds the accumulator's bytes and
ends it in RX_ON. -/
theorem sentFrameIsReceivedIntact : Obligations.SentFrameIsReceivedIntact := by
  unfold Obligations.SentFrameIsReceivedIntact
  intro s payload hActive hCursor hWait hS hSyn hMax
  have hLen : (BitVec.ofNat 8 (payload.length + 2)).toNat = payload.length + 2 := by
    rw [BitVec.toNat_ofNat, Nat.mod_eq_of_lt (by omega)]
  have hStart : Synchronising s s := ⟨hActive, hWait, hS, hSyn, fun _ _ => rfl⟩
  obtain ⟨v, hRun, hv, hCursor', hFirst, hCrc⟩ := receiving_crcByte2 hStart hCursor hLen (by omega)
  have hOk : v.crcOk (rev8 (field (crcOf payload) 0 8)) = true := by simp [State.crcOk, hFirst, hCrc]
  obtain ⟨t, hLast, hLastOk, hValid, hActive', hScan, hRxOn, hLength, hBuffer⟩ :=
    hv.crcByte2 hCursor' (by simp [hLen]) (by omega) hOk
  have hHeld : (airFrame payload).drop 5 =
      BitVec.ofNat 8 (payload.length + 2) :: payload ++ [rev8 (field (crcOf payload) 8 8)] ++
        [rev8 (field (crcOf payload) 0 8)] := by simp [airFrame]
  rw [airFrame_eq] at hHeld ⊢
  refine ⟨t, hRun.append hLast, hLastOk, hValid, hActive', hScan, hRxOn, hLength, fun k b hk => ?held,
    fun k hPast hk => ?beyond⟩
  case held =>
    rw [hHeld] at hk
    obtain ⟨hInside, -⟩ := List.getElem?_eq_some_iff.mp hk
    rw [hBuffer k (by simp at hInside; omega), List.getD_eq_getElem?_getD, hk, Option.getD_some]
  case beyond => rw [hBuffer k hk, List.getD_eq_default _ _ (by simp; omega)]

end

/-! ### O39, O40: the address filter -/

namespace Sys2Proof.Machine

/-! ### The matcher on a described state (44_address_filter.md R290 to R296) -/

section
variable {s t u : State} {f : Nat → Byte}

theorem Answers.rx_eq (h : Answers (.next t) u f) : t.rx = u.rx := by
  obtain ⟨m, rfl, -⟩ := h.exists_regFile
  rfl

theorem Answers.params_eq (h : Answers (.next t) u f) : t.params = u.params := by
  obtain ⟨m, rfl, -⟩ := h.exists_regFile
  rfl

theorem Answers.ite {t' u' : State} (h : Answers (.next t) u f) (h' : Answers (.next t') u' f) {c : Prop} [Decidable c] :
    Answers (.next (if c then t else t')) (if c then u else u') f := by
  split
  · exact h
  · exact h'

theorem addressMatch_unrejected (h : s.rx.filter ≠ .reject) (b : Byte) (p : Nat) :
    s.addressMatch b p =
      if p = 1 then s.frameTypeCheck b
      else if p = 2 then s.dstModeRecord b
      else if p = 3 then s.seqTrack b
      else if p = 5 then s.panCheck
      else if p = 7 then s.shortCheck
      else if p = 13 then s.extCheck
      else s := if_neg h

/-- R291: the frame type decides the verdict and nothing else. -/
theorem frameTypeCheck_eq (s : State) (b : Byte) :
    s.frameTypeCheck b =
      { s with rx := { s.rx with filter :=
          if (field b 0 3).toNat < 4 then s.rx.filter
          else if s.params.reservedFtPolicy = .reject then .reject else .exempt } } := by
  unfold State.frameTypeCheck
  by_cases hType : (field b 0 3).toNat < 4
  · rw [if_neg (by omega), if_pos hType]
  · rw [if_pos (by omega), if_neg hType]
    cases s.params.reservedFtPolicy <;> rfl

theorem Answers.frameTypeCheck (h : Answers (.next t) u f) (b : Byte) :
    Answers (.next (t.frameTypeCheck b)) (u.frameTypeCheck b) f :=
  h.map (State.frameTypeCheck · b) (fun m => by simp only [frameTypeCheck_eq]) (by simp only [frameTypeCheck_eq])

/-- The matcher neither reads nor moves the Receiver's cursor. -/
theorem addressMatch_setRxCursor (s : State) (c : RxCursor) (b : Byte) (p : Nat) :
    (s.setRxCursor c).addressMatch b p = (s.addressMatch b p).setRxCursor c := by
  have hType : (s.setRxCursor c).frameTypeCheck b = (s.frameTypeCheck b).setRxCursor c := by
    rw [frameTypeCheck_eq, frameTypeCheck_eq]
    rfl
  have hPan : (s.setRxCursor c).panCheck = s.panCheck.setRxCursor c := by
    simp only [State.panCheck, apply_ite (State.setRxCursor · c)]
    rfl
  have hShort : (s.setRxCursor c).shortCheck = s.shortCheck.setRxCursor c := by
    simp only [State.shortCheck, apply_ite (State.setRxCursor · c)]
    rfl
  have hExt : (s.setRxCursor c).extCheck = s.extCheck.setRxCursor c := by
    simp only [State.extCheck, apply_ite (State.setRxCursor · c)]
    rfl
  simp only [State.addressMatch, hType, hPan, hShort, hExt, apply_ite (State.setRxCursor · c)]
  rfl

end

/-! ### A payload byte at a position the matcher checks -/

section
variable {s t : State} {b : Byte}

/-- Recorded, the cursor moved on, then matched: the matcher may come last (R248, R290). -/
theorem payloadByte_matched (hCursor : s.rx.st = .inPacket) (hWait : s.awaitingAck = false) (b : Byte) :
    s.payloadByte b =
      ((s.payloadRecorded b).setRxCursor s.rx.afterPayload).addressMatch b (s.rx.pos + 1) := by
  have hMatched := addressMatch_leaves (s.payloadRecorded b) b (s.rx.pos + 1)
  have hCursor' : ((s.payloadRecorded b).addressMatch b (s.rx.pos + 1)).rx.st = .inPacket :=
    (congrArg Rx.st hMatched.rx).trans hCursor
  have hLen : ((s.payloadRecorded b).addressMatch b (s.rx.pos + 1)).rx.len = s.rx.len :=
    (congrArg Rx.len hMatched.rx).trans rfl
  rw [payloadByte_listening hWait, packetAdvanced_inPacket hCursor', hLen, addressMatch_setRxCursor]
  rfl

/-- A payload byte of a frame in bounds: the matcher runs on the state in which the byte is taken. -/
theorem exec_payload_matched (hBounds : s.FramesInBounds) (hTakes : s.TakesPayload) (b : Byte) :
    ∃ t, Answers (.next t) (s.payloadTaken b) (s.payloadRegs b) ∧
      exec (.rxbL b) s = .next (t.addressMatch b (s.rx.pos + 1)) := by
  obtain ⟨-, -, hInPacket, -⟩ := hBounds
  obtain ⟨hActive, hCursor, hWait⟩ := hTakes
  have hInside := hInPacket hCursor
  refine ⟨_, payloadRecorded_answers s b (by omega), ?_⟩
  rw [exec_rxbL_inPacket b hActive hCursor, payloadByte_matched (s := s.sampleRssi) hCursor hWait]
  rfl

/-- The header bytes after a payload byte of the header: its own, and those before it. -/
theorem payloadTaken_hdrAt (hHeader : s.rx.hdr.length = 13) (hPos : s.rx.pos < 13) (b : Byte) {p : Nat} (hp : 0 < p) :
    (s.payloadTaken b).rx.hdrAt p = if p = s.rx.pos + 1 then b else s.rx.hdrAt p := by
  have hSame : s.rx.pos = p - 1 ↔ p = s.rx.pos + 1 := by omega
  simp only [State.payloadTaken, Rx.hdrAt, if_pos hPos, List.getD_eq_getElem?_getD, List.getElem?_set, hSame, hHeader]
  split_ifs <;> rfl

/-- A payload byte leaves the configuration registers. -/
theorem payloadRegs_config (s : State) (b : Byte) {a : Nat} (hFb : a < 0x180) (hRssi : a ≠ Addr.phyRssi) :
    s.payloadRegs b a = s.reg a := by
  rw [State.payloadRegs, if_neg (fb_ne hFb).symm, heardRegs_other s hRssi]

theorem broadcast16_bytes : Config.broadcast16 = le16 0xFF#8 0xFF#8 := rfl

/-- The three ends of an address check on a described state: AMI posted, the frame rejected, or nothing asked (R295, R296). -/
theorem Answers.addressDecided {u v : State} {f : Nat → Byte} (h : Answers (.next t) u f)
    (hMask : f Addr.irqMask = u.reg Addr.irqMask) (hStatus : f Addr.irqStatus = u.reg Addr.irqStatus)
    {asked mine : Prop} [Decidable asked] [Decidable mine]
    (hv : v = if asked then if mine then t.post .ami else t.rejectFrame else t) :
    if asked then
      if mine then Answers (.next v) { u with outputs := u.outputs ++ u.rise .ami } (posted f 0x20#8)
      else Answers (.next v) u.rejectFrame f
    else Answers (.next v) u f := by
  subst hv
  split_ifs
  · exact h.post .ami hMask hStatus
  · exact h.map State.rejectFrame
  · exact h

section
variable (h : Answers (.next t) (s.payloadTaken b) (s.payloadRegs b))
include h

theorem filter_taken : t.rx.filter = s.rx.filter := (congrArg Rx.filter h.rx_eq).trans rfl

theorem dstMode_taken : t.rx.dstMode = s.rx.dstMode := (congrArg Rx.dstMode h.rx_eq).trans rfl

theorem reg_taken {a : Nat} (hFb : a < 0x180) (hRssi : a ≠ Addr.phyRssi) : t.reg a = s.reg a :=
  (h.reg_eq a).trans (payloadRegs_config s b hFb hRssi)

theorem panId_taken : t.panId = le16 (s.reg Addr.panId0) (s.reg Addr.panId1) :=
  congrArg₂ le16 (reg_taken h (by decide) (by decide)) (reg_taken h (by decide) (by decide))

theorem shortAddr_taken : t.shortAddr = le16 (s.reg Addr.shortAddr0) (s.reg Addr.shortAddr1) :=
  congrArg₂ le16 (reg_taken h (by decide) (by decide)) (reg_taken h (by decide) (by decide))

theorem ieeeAddr_taken : t.ieeeAddr = s.ieeeAddr := by
  refine congrArg le64 (List.map_congr_left fun i hi => ?_)
  have hInside : i < 8 := List.mem_range.mp hi
  exact reg_taken h (by simp only [Addr.ieeeAddr0]; omega) (by simp only [Addr.ieeeAddr0, Addr.phyRssi]; omega)

variable (hHeader : s.rx.hdr.length = 13)
include hHeader

theorem dstPan_taken (hPos : s.rx.pos = 4) : t.rx.dstPan = le16 (s.rx.hdrAt 4) b := by
  simp [Rx.dstPan, h.rx_eq, payloadTaken_hdrAt hHeader, hPos]

theorem dstShort_taken (hPos : s.rx.pos = 6) : t.rx.dstShort = le16 (s.rx.hdrAt 6) b := by
  simp [Rx.dstShort, h.rx_eq, payloadTaken_hdrAt hHeader, hPos]

theorem dstExt_taken (hPos : s.rx.pos = 12) :
    t.rx.dstExt =
      le64 [s.rx.hdrAt 6, s.rx.hdrAt 7, s.rx.hdrAt 8, s.rx.hdrAt 9, s.rx.hdrAt 10, s.rx.hdrAt 11, s.rx.hdrAt 12, b] := by
  simp [Rx.dstExt, h.rx_eq, payloadTaken_hdrAt hHeader, hPos, List.range_succ]

/-- The PAN check in bytes (R294). -/
theorem panCheck_taken (hPos : s.rx.pos = 4) :
    t.panCheck =
      if s.rx.filter = .pass ∧ (s.rx.dstMode = 2#2 ∨ s.rx.dstMode = 3#2) ∧
          ¬ (s.rx.hdrAt 4 = s.reg Addr.panId0 ∧ b = s.reg Addr.panId1) ∧ ¬ (s.rx.hdrAt 4 = 0xFF#8 ∧ b = 0xFF#8) then
        t.rejectFrame
      else t := by
  simp only [State.panCheck, filter_taken h, dstMode_taken h, dstPan_taken h hHeader hPos, panId_taken h,
    broadcast16_bytes, ne_eq, le16_eq, ← ite_and, and_assoc]

/-- The short address check in bytes (R295). -/
theorem shortCheck_taken (hPos : s.rx.pos = 6) :
    t.shortCheck =
      if s.rx.filter = .pass ∧ s.rx.dstMode = 2#2 then
        if (s.rx.hdrAt 6 = s.reg Addr.shortAddr0 ∧ b = s.reg Addr.shortAddr1) ∨ (s.rx.hdrAt 6 = 0xFF#8 ∧ b = 0xFF#8) then
          t.post .ami
        else t.rejectFrame
      else t := by
  simp only [State.shortCheck, filter_taken h, dstMode_taken h, dstShort_taken h hHeader hPos, shortAddr_taken h,
    broadcast16_bytes, le16_eq]

/-- The extended address check in bytes; EXT_BROADCAST is a parameter (R296). -/
theorem extCheck_taken (hPos : s.rx.pos = 12) {bytes : List Byte}
    (hBytes : bytes =
      [s.rx.hdrAt 6, s.rx.hdrAt 7, s.rx.hdrAt 8, s.rx.hdrAt 9, s.rx.hdrAt 10, s.rx.hdrAt 11, s.rx.hdrAt 12, b]) :
    t.extCheck =
      if s.rx.filter = .pass ∧ s.rx.dstMode = 3#2 then
        if bytes = (List.range 8).map (fun i => s.reg (Addr.ieeeAddr0 + i)) ∨ le64 bytes = s.params.extBroadcast then
          t.post .ami
        else t.rejectFrame
      else t := by
  have hParams : t.params = s.params := h.params_eq
  have hMine : le64 bytes = s.ieeeAddr ↔ bytes = (List.range 8).map (fun i => s.reg (Addr.ieeeAddr0 + i)) :=
    le64_eq _ _ (by simp [hBytes]) (by simp)
  simp only [State.extCheck, filter_taken h, dstMode_taken h, dstExt_taken h hHeader hPos, ← hBytes, ieeeAddr_taken h, hMine,
    hParams]

end

end

end Sys2Proof.Machine

section
open Sys2Proof Sys2Proof.Machine

/-- Settles O39: the matcher on the byte taken (`exec_payload_matched`), position by position. -/
theorem filterReadsFrameControl : Obligations.FilterReadsFrameControl := by
  unfold Obligations.FilterReadsFrameControl
  rintro b s u hBounds hTakes hFilter rfl
  obtain ⟨t, hTaken, hExec⟩ := exec_payload_matched hBounds hTakes b
  have hFilter' : t.rx.filter ≠ .reject := by rwa [filter_taken hTaken]
  rw [hExec, addressMatch_unrejected hFilter']
  refine ⟨fun hPos => ?frameType, fun hPos => ?dstMode, fun hPos => ?sequence⟩ <;> rw [hPos]
  case frameType => exact (hTaken.frameTypeCheck b).congr_state (by rw [frameTypeCheck_eq]; rfl)
  case dstMode => exact hTaken.map (State.dstModeRecord · b)
  case sequence => exact hTaken.map (State.seqTrack · b)

/-- Settles O40: likewise; each check compares bytes (`panCheck_taken`, `shortCheck_taken`, `extCheck_taken`), and the line AMI
rises as in `s`, whose IRQ registers the byte leaves. -/
theorem filterChecksDestination : Obligations.FilterChecksDestination := by
  unfold Obligations.FilterChecksDestination
  rintro b s u rejected h hBounds hTakes hFilter rfl rfl rfl
  obtain ⟨t, hTaken, hExec⟩ := exec_payload_matched hBounds hTakes b
  obtain ⟨hHeader, -⟩ := hBounds
  have hFilter' : t.rx.filter ≠ .reject := by rwa [filter_taken hTaken]
  have hMask : s.payloadRegs b Addr.irqMask = s.reg Addr.irqMask := payloadRegs_config s b (by decide) (by decide)
  have hStatus : s.payloadRegs b Addr.irqStatus = s.reg Addr.irqStatus := payloadRegs_config s b (by decide) (by decide)
  rw [hExec, addressMatch_unrejected hFilter']
  refine ⟨fun hPos => ?pan, fun hPos => ?short, fun hPos => ?extended⟩ <;> rw [hPos]
  case pan =>
    change Answers (.next t.panCheck) _ _
    rw [panCheck_taken hTaken hHeader hPos]
    exact (hTaken.map State.rejectFrame).ite hTaken
  case short => exact hTaken.addressDecided hMask hStatus (shortCheck_taken hTaken hHeader hPos)
  case extended => exact hTaken.addressDecided hMask hStatus (extCheck_taken hTaken hHeader hPos rfl)

end

/-! ### O47 to O51: CCA, CSMA and ACK retry -/

namespace Sys2Proof.Machine

section
variable {s t u : State}

/-! ### The CCA verdict (45_csma_ack.md R321 to R324) -/

theorem carrier_iff (x : OpState) : x.carrier = true ↔ x = .busyRx ∨ x = .busyRxAack := by
  cases x <;> simp [OpState.carrier]

theorem maxEnergy_toNat (start cur : Byte) : (maxEnergy start cur).toNat = max start.toNat cur.toNat := by
  unfold maxEnergy
  split <;> omega

theorem energyAbove_iff (e : Byte) (threshold : BitVec 4) :
    energyAbove e threshold = true ↔ 2 * threshold.toNat < e.toNat := decide_eq_true_iff

theorem ccaBusy_of_mode {mode : BitVec 2} (h : field (s.reg Addr.phyCcCca) 5 2 = mode) (start cur : Byte) :
    s.ccaBusy start cur = ccaTable mode s.opState.carrier (energyAbove (maxEnergy start cur) s.edThreshold) := by
  rw [← h]
  rfl

/-! ### The backoff (R326) -/

theorem backoff_fixed (h : s.maxBe = 0#4) : s.backoff = s.params.backoffFixed := if_pos h

theorem backoff_empty (h : s.maxBe ≠ 0#4) (hEmpty : s.maxBe.toNat ≤ s.minBe.toNat) : s.backoff = 2 ^ s.minBe.toNat := by
  rw [State.backoff, if_neg h, if_pos hEmpty]

theorem backoff_drawn (h : s.maxBe ≠ 0#4) (hRange : s.minBe.toNat < s.maxBe.toNat) :
    s.backoff = s.backoffDraw (2 ^ s.minBe.toNat) (2 ^ s.maxBe.toNat) := by
  rw [State.backoff, if_neg h, if_neg (Nat.not_le.mpr hRange)]

theorem popBackoffIfDrawn_eq (s : State) :
    s.popBackoffIfDrawn = { s with env := if s.backoffDraws then s.env.afterBackoff else s.env } := by
  unfold State.popBackoffIfDrawn
  split <;> rfl

/-! ### The CCA_DELAY firing (R330) -/

theorem exec_fireCcaDelay (h : s.pending.ccaDelay = some s.now) :
    exec .fireCcaDelay s = .next (s.cancel .ccaDelay).onCcaDelay := if_pos h

theorem onCcaDelay_manual (h : ¬ (s.aretActive = true ∧ s.awaitingAck = false ∧ s.tx.active = false)) :
    s.onCcaDelay = s.manualCcaComplete := if_neg (by simpa [and_assoc] using h)

theorem onCcaDelay_aret (hAret : s.aretActive = true) (hWait : s.awaitingAck = false) (hTx : s.tx.active = false) :
    s.onCcaDelay = s.aretCca := if_pos (by simp [*])

/-- The manual CCA's firing, the event cleared first (R384, R330). -/
theorem exec_fireCcaDelay_manual (hDue : s.pending.ccaDelay = some s.now)
    (h : ¬ (s.aretActive = true ∧ s.awaitingAck = false ∧ s.tx.active = false)) :
    exec .fireCcaDelay s = .next (s.cancel .ccaDelay).manualCcaComplete := by
  rw [exec_fireCcaDelay hDue]
  exact congrArg Host.Outcome.next (onCcaDelay_manual h)

/-- The ARET CCA's firing. -/
theorem exec_fireCcaDelay_aret (hDue : s.pending.ccaDelay = some s.now) (hAret : s.aretActive = true)
    (hWait : s.awaitingAck = false) (hTx : s.tx.active = false) :
    exec .fireCcaDelay s = .next (s.cancel .ccaDelay).aretCca := by
  rw [exec_fireCcaDelay hDue]
  exact congrArg Host.Outcome.next (onCcaDelay_aret hAret hWait hTx)

theorem aretCca_idle (h : s.ccaBusy s.ccaStartEnergy s.energyDraw = false) : s.aretCca = s.popEnergy.startTx .data :=
  if_neg (by simp [h])

/-- `s` in its next attempt, before the backoff: one retry less, a new start sample (R325, R330). -/
def State.ccaRestarted (s : State) : State :=
  { s.popEnergy with csmaRetries := s.csmaRetries - 1#3, ccaStartEnergy := s.energyDraw }

theorem aretCca_retry (h : s.ccaBusy s.ccaStartEnergy s.energyDraw = true) (hLeft : 0 < s.csmaRetries.toNat) :
    s.aretCca =
      s.popEnergy.ccaRestarted.popBackoffIfDrawn.schedule .ccaDelay s.popEnergy.ccaRestarted.backoff :=
  (if_pos h).trans (if_pos hLeft)

theorem aretCca_failed (h : s.ccaBusy s.ccaStartEnergy s.energyDraw = true) (hNone : s.csmaRetries = 0#3) :
    s.aretCca = s.popEnergy.aretFinish tracChannelAccessFailure :=
  (if_pos h).trans (if_neg (by simp [State.popEnergy, hNone]))

/-- A busy verdict with retries left: the next CCA follows a backoff, drawn after the new start sample (R330, R326). -/
theorem ccaRestarted_answers (s : State) {u : State} (hu : u = { s with env := s.env.afterEnergy }) :
    Answers (.next (s.ccaRestarted.popBackoffIfDrawn.schedule .ccaDelay s.ccaRestarted.backoff))
      { s with
        csmaRetries := s.csmaRetries - 1#3
        ccaStartEnergy := s.energyDraw
        env := if s.backoffDraws then u.env.afterBackoff else u.env
        pending := { s.pending with ccaDelay := some (s.now + u.backoff * s.params.symbolCycles) } }
      s.reg := by
  have hBackoff : s.ccaRestarted.backoff = u.backoff := by rw [hu]; rfl
  have hDraws : s.ccaRestarted.backoffDraws = s.backoffDraws := rfl
  have hEnv : s.ccaRestarted.env = u.env := by rw [hu]; rfl
  rw [popBackoffIfDrawn_eq, hBackoff, hDraws, hEnv]
  exact answers_self _

/-- The end of a sequence with both units stopped (R329). -/
theorem aretFinish_stopped (hTx : s.tx.active = false) (hRx : s.rx.active = false) (c : BitVec 3) :
    s.aretFinish c =
      ((State.setTrac { s with aretActive := false, awaitingAck := false } c).setState .txAretOn).post .txEnd := by
  simp [State.aretFinish, hTx, hRx]

/-- Its answer, `s` the state whose registers the sequence still has. -/
theorem Answers.aretFinish (h : Answers (.next t) u s.reg) (hReg : u.reg = s.reg) (hTx : t.tx.active = false)
    (hRx : t.rx.active = false) (c : BitVec 3) :
    Answers (.next (t.aretFinish c)) u.aretFailed (s.aretEndRegs (c.setWidth 8)) := by
  have hOver := h.map fun s => { s with aretActive := false, awaitingAck := false }
  have hPosted := ((hOver.setTrac c).setState .txAretOn).post .txEnd (congrFun hReg.symm _) (congrFun hReg.symm _)
  rw [aretFinish_stopped hTx hRx]
  refine hPosted.congr_regs fun a => ?_
  simp only [posted, withStatus, State.aretEndRegs, IrqLine.bitNo, OpState.code]
  split_ifs <;> simp_all

/-- In a sequence that waits for no ACK the Receiver is stopped (10_state.md R59). -/
theorem rx_stopped_of_contending (h : s.Sequenced) (hAret : s.aretActive = true) (hWait : s.awaitingAck = false) :
    s.rx.active = false := by
  obtain ⟨hRx, -, -, hState, -⟩ := h
  by_contra hr
  obtain ⟨-, hS⟩ := hRx (by simpa using hr)
  simp [hState.mp hAret, hWait] at hS

/-- A manual CCA completes (R334). -/
theorem manualCcaComplete_answers (s : State) :
    Answers (.next s.manualCcaComplete)
      { s with env := s.env.afterEnergy, outputs := s.outputs ++ s.rise .ccaEdDone }
      (fun a =>
        if a = Addr.trxStatus then
          (s.reg a &&& 0x3F#8) ||| (if s.ccaBusy s.ccaStartEnergy s.energyDraw then 0xC0#8 else 0x80#8)
        else if a = Addr.phyEdLevel then BitVec.ofNat 8 (max s.ccaStartEnergy.toNat s.energyDraw.toNat)
        else if a = Addr.irqStatus then s.reg a ||| 0x10#8
        else s.reg a) := by
  have hLevel : maxEnergy s.ccaStartEnergy s.energyDraw = BitVec.ofNat 8 (max s.ccaStartEnergy.toNat s.energyDraw.toNat) := by
    rw [← maxEnergy_toNat, BitVec.ofNat_toNat, BitVec.setWidth_eq]
  have hDrawn := (answers_self s).map State.popEnergy
  refine (((hDrawn.setReg Addr.trxStatus _).setReg Addr.phyEdLevel _).post .ccaEdDone rfl rfl).congr_regs fun a => ?_
  rw [← hLevel, ← high2_eq]
  simp only [posted, IrqLine.bitNo]
  split_ifs <;> simp_all

/-! ### The ACK_TIMEOUT firing (R331) -/

theorem exec_fireAckTimeout (h : s.pending.ackTimeout = some s.now) :
    exec .fireAckTimeout s = .next (s.cancel .ackTimeout).onAckTimeout := if_pos h

theorem onAckTimeout_idle (h : s.awaitingAck = false) : s.onAckTimeout = s := if_neg (by simp [h])

/-- `stopRx()` in one equation; the diagnostic is that of a Receiver already stopped (43_receiver.md R240). -/
theorem stopRx_eq (s : State) :
    s.stopRx =
      { s with
        rx := { s.rx with active := false, st := if s.rx.active then .sfdScan else s.rx.st }
        outputs := s.outputs ++ [if s.rx.active then .endReceive else .diag .rxAlreadyStopped] } := by
  rw [← stopRx_rx, ← stopRx_outputs, State.stopRx]
  split <;> rfl

/-- `s` after its ACK wait: the Receiver stopped (R331). -/
def State.ackMissed (s : State) : State := State.stopRx { s with awaitingAck := false }

theorem ackMissed_reg (s : State) : s.ackMissed.reg = s.reg := funext fun a => stopRx_reg _ a

theorem ackMissed_tx (s : State) : s.ackMissed.tx = s.tx := stopRx_tx _

theorem ackMissed_rx_active (s : State) : s.ackMissed.rx.active = false := by rw [State.ackMissed, stopRx_rx]

/-- The Transmitter is stopped during an ACK wait (10_state.md R59). -/
theorem tx_stopped_of_awaiting (h : s.Sequenced) (hWait : s.awaitingAck = true) : s.tx.active = false := by
  obtain ⟨-, -, hAwaiting, -⟩ := h
  exact (hAwaiting hWait).2

theorem onAckTimeout_retry (h : s.awaitingAck = true) (hLeft : 0 < s.frameRetries.toNat) :
    s.onAckTimeout =
      State.csmaStartOrTx
        { s.ackMissed with frameRetries := s.frameRetries - 1#4, csmaRetries := s.ackMissed.maxCsmaRetries } := by
  simp [State.onAckTimeout, State.ackMissed, h, hLeft]

theorem onAckTimeout_failed (h : s.awaitingAck = true) (hNone : s.frameRetries = 0#4) :
    s.onAckTimeout = s.ackMissed.aretFinish tracNoAck := by
  simp [State.onAckTimeout, State.ackMissed, h, hNone]

end

end Sys2Proof.Machine

section
open Sys2Proof Sys2Proof.Machine

/-- Settles O47: the mode picks its row of the table, whose inputs are `carrier` and `energy`. -/
theorem ccaVerdict : Obligations.CcaVerdict := by
  unfold Obligations.CcaVerdict
  intro s start cur carrier energy hCarrier hEnergy
  have hSense : s.opState.carrier = true ↔ carrier := (carrier_iff _).trans hCarrier.symm
  have hAbove : energyAbove (maxEnergy start cur) s.edThreshold = true ↔ energy := by
    rw [energyAbove_iff, maxEnergy_toNat, hEnergy]
    rfl
  refine ⟨fun hMode => ?either, fun hMode => ?energyOnly, fun hMode => ?carrierOnly, fun hMode => ?both, ?level⟩
  case either =>
    rw [ccaBusy_of_mode hMode, ← hSense, ← hAbove]
    exact Bool.or_eq_true_iff
  case energyOnly => rwa [ccaBusy_of_mode hMode]
  case carrierOnly => rwa [ccaBusy_of_mode hMode]
  case both =>
    rw [ccaBusy_of_mode hMode, ← hSense, ← hAbove]
    exact Bool.and_eq_true_iff
  case level => exact maxEnergy_toNat start cur

/-- Settles O48: the three branches of `backoff()`; a draw lies in its range (`intoRange_mem`). -/
theorem backoffInRange : Obligations.BackoffInRange := by
  unfold Obligations.BackoffInRange
  rintro s lo hi rfl rfl
  refine ⟨backoff_fixed, backoff_empty, fun hSet hRange => ?drawn⟩
  have hPow : 2 ^ s.minBe.toNat < 2 ^ s.maxBe.toNat := Nat.pow_lt_pow_right (by decide) hRange
  obtain ⟨hLow, hHigh⟩ := intoRange_mem _ _ (s.env.backoff.headD (Config.freeBackoff s.env.drawn)) hPow
  rw [backoff_drawn hSet hRange]
  refine ⟨hLow, hHigh, fun d ds hAnswer hd hd' => ?answer⟩
  rw [State.backoffDraw, hAnswer]
  exact intoRange_id _ _ _ hd hd'

/-- Settles O49: the firing clears its event and completes the CCA the flags name; an ARET CCA by its verdict and the retries
left. -/
theorem aretCcaCompletes : Obligations.AretCcaCompletes := by
  unfold Obligations.AretCcaCompletes
  refine ⟨fun s => exec_fireCcaDelay_manual, ?aret⟩
  rintro s s1 s2 hSeq hDue hAret hWait hTx rfl rfl
  have hDrawn := ((answers_self s).cancel .ccaDelay).map State.popEnergy
  rw [exec_fireCcaDelay_aret hDue hAret hWait hTx]
  refine ⟨fun hIdle => ?idle, fun hBusy hLeft => ?retry, fun hBusy hNone => ?failed⟩
  case idle =>
    rw [aretCca_idle (s := s.cancel .ccaDelay) hIdle]
    exact hDrawn.startData hTx {}
  case retry =>
    rw [aretCca_retry (s := s.cancel .ccaDelay) hBusy hLeft]
    exact ccaRestarted_answers _ rfl
  case failed =>
    rw [aretCca_failed (s := s.cancel .ccaDelay) hBusy hNone]
    exact hDrawn.aretFinish rfl hTx (rx_stopped_of_contending hSeq hAret hWait) tracChannelAccessFailure

/-- Settles O50: the firing clears its event; an ACK wait ends with the Receiver stopped (`stopRx_eq`), then by the retries
left. -/
theorem ackTimeoutFires : Obligations.AckTimeoutFires := by
  unfold Obligations.AckTimeoutFires
  intro s u hSeq hDue hu
  obtain rfl : s.cancel .ackTimeout = u := hu.symm
  rw [exec_fireAckTimeout hDue]
  refine ⟨fun hIdle => ?idle, fun hWait => ⟨.rxAlreadyStopped, fun v hv => ?waiting⟩⟩
  case idle =>
    rw [onAckTimeout_idle (s := s.cancel .ackTimeout) hIdle]
    exact answers_self _
  case waiting =>
    obtain rfl : (s.cancel .ackTimeout).ackMissed = v := (stopRx_eq _).trans hv.symm
    have hReg : (s.cancel .ackTimeout).ackMissed.reg = s.reg := ackMissed_reg _
    have hTx : (s.cancel .ackTimeout).ackMissed.tx.active = false := by
      rw [ackMissed_tx]
      exact tx_stopped_of_awaiting hSeq hWait
    have hMissed := answers_self (s.cancel .ackTimeout).ackMissed
    refine ⟨fun hLeft => ?retry, fun hNone => ?failed⟩
    case retry =>
      rw [onAckTimeout_retry (s := s.cancel .ackTimeout) hWait hLeft, ← hReg]
      exact (hMissed.map fun t => { t with frameRetries := s.frameRetries - 1#4 }).csmaStartOrTx hTx {}
    case failed =>
      rw [onAckTimeout_failed (s := s.cancel .ackTimeout) hWait hNone]
      rw [hReg] at hMissed
      exact hMissed.aretFinish hReg hTx (ackMissed_rx_active _) tracNoAck

/-- Settles O51: outside an ARET CCA the firing runs the manual completion. -/
theorem manualCcaCompletes : Obligations.ManualCcaCompletes := by
  unfold Obligations.ManualCcaCompletes
  intro s hDue hManual
  have hOther : ¬ (s.aretActive = true ∧ s.awaitingAck = false ∧ s.tx.active = false) := by
    rintro ⟨hAret, hWait, hTx⟩
    simp [hAret, hWait, hTx] at hManual
  rw [exec_fireCcaDelay_manual hDue hOther]
  exact manualCcaComplete_answers (s.cancel .ccaDelay)

end

/-! ### O9 to O12, O52, O53, O57, O60: the interrupt lines, the clock, admission, SLEEP -/

namespace Sys2Proof.Machine

/-! ### The levels the outputs report (60_exceptions.md R366) -/

theorem lastLevel_snoc_line (os : List Output) (k l : IrqLine) (level : Bool) :
    lastLevel (os ++ [.irqLine k level]) l = if k = l then level else lastLevel os l := by
  simp [lastLevel]

theorem lastLevel_snoc_other (os : List Output) {o : Output} (ho : ∀ k level, o ≠ .irqLine k level) (l : IrqLine) :
    lastLevel (os ++ [o]) l = lastLevel os l := by
  cases o with
  | irqLine k level => exact absurd rfl (ho k level)
  | readData | beginTransmit | endTransmit | beginReceive | endReceive | txByte | probe | powerMode | diag =>
    simp [lastLevel]

/-- A list of reports of the levels `level` settles the lines in it. -/
theorem lastLevel_append_lines (level : IrqLine → Bool) (l : IrqLine) (ks : List IrqLine) (os : List Output) :
    lastLevel (os ++ ks.map fun k => .irqLine k (level k)) l = if l ∈ ks then level l else lastLevel os l := by
  induction ks generalizing os with
  | nil => simp
  | cons k ks ih =>
    rw [List.map_cons, List.append_cons, ih, lastLevel_snoc_line]
    by_cases hk : k = l
    · simp [hk]
    · simp [hk, Ne.symm hk]

theorem mem_irqLinesDown (l : IrqLine) : l ∈ irqLinesDown := by cases l <;> decide

/-- The changes reported bring a line from its level before to its level after. -/
theorem lastLevel_append_irqChanges {os : List Output} {before : Byte} {l : IrqLine}
    (h : lastLevel os l = bit before l.bitNo) (after : Byte) :
    lastLevel (os ++ irqChanges before after) l = bit after l.bitNo := by
  rw [irqChanges, lastLevel_append_lines fun k => bit after k.bitNo]
  by_cases hChange : bit before l.bitNo = bit after l.bitNo
  · simp [hChange, h]
  · simp [hChange, mem_irqLinesDown]

/-- `update_irq_lines()` after a change of the interrupt registers reports the levels they then give. -/
theorem updateIrqLines_linesReported {s : State} {before : Byte}
    (h : ∀ l, lastLevel s.outputs l = bit before l.bitNo) : (s.updateIrqLines before).LinesReported :=
  fun l => lastLevel_append_irqChanges (h l) s.irqLevels

theorem clearIrq_linesReported {s : State} (h : s.LinesReported) (v : Byte) : (s.clearIrq v).LinesReported :=
  updateIrqLines_linesReported h

theorem lastLevel_append_resetStops (s : State) (l : IrqLine) :
    lastLevel (s.outputs ++ s.resetStops) l = lastLevel s.outputs l := by
  unfold State.resetStops
  cases s.tx.active <;> cases s.rx.active <;> simp [lastLevel]

theorem resetFields_linesReported {s : State} (h : s.LinesReported) : s.resetFields.LinesReported :=
  updateIrqLines_linesReported fun l => (lastLevel_append_resetStops s l).trans (h l)

/-! ### The exact answers of the interrupt registers (R365, R367, R368) -/

/-- A write of IRQ_MASK (R367). -/
theorem writeIrqMask_answers (s : State) (v : Byte) :
    Answers (.next (s.writeIrqMask v))
      { s with outputs := s.outputs ++ lineChanges s.irqLevels (s.reg Addr.irqStatus &&& v) }
      (fun a => if a = Addr.irqMask then v else s.reg a) :=
  .of_regFile (like_of_fields (by simp [irqChanges_eq])) (writeIrqMask_reg s v)

/-- A write of IRQ_STATUS (R368). -/
theorem clearIrq_answers (s : State) (v : Byte) :
    Answers (.next (s.clearIrq v))
      { s with outputs := s.outputs ++ lineChanges s.irqLevels (s.reg Addr.irqStatus &&& ~~~v &&& s.reg Addr.irqMask) }
      (fun a => if a = Addr.irqStatus then s.reg a &&& ~~~v else s.reg a) := by
  refine .of_regFile (like_of_fields (by simp [irqChanges_eq])) fun a => ?_
  rw [clearIrq_reg]
  exact ite_congr rfl (fun ha => by rw [ha]) fun _ => rfl

/-- A post (R365). -/
theorem post_answers (s : State) (l : IrqLine) :
    Answers (.next (s.post l)) { s with outputs := s.outputs ++ s.rise l } (posted s.reg (1#8 <<< l.bitNo)) :=
  (answers_self s).post l rfl rfl

theorem post_reg_posted (s : State) (l : IrqLine) (a : Nat) : (s.post l).reg a = posted s.reg (1#8 <<< l.bitNo) a :=
  (post_answers s l).reg_eq a

/-- Setting a bit that is set changes nothing. -/
theorem or_bit_of_set {v : Byte} {n : Nat} (h : bit v n = true) : v ||| (1#8 <<< n) = v := by
  apply ext_bit
  intro i hi
  rw [bit_or]
  by_cases hn : i = n
  · simp [hn, h]
  · have hAway : n ≤ i → ¬ i - n = 0 := by omega
    have hClear : bit (1#8 <<< n) i = false := by simpa [bit] using fun _ => hAway
    rw [hClear, Bool.or_false]

theorem rise_of_posted {s : State} {l : IrqLine} (h : bit (s.reg Addr.irqStatus) l.bitNo = true) : s.rise l = [] := by
  simp [State.rise, h]

theorem post_reg_of_posted {s : State} {l : IrqLine} (h : bit (s.reg Addr.irqStatus) l.bitNo = true) (a : Nat) :
    (s.post l).reg a = s.reg a := by
  rw [post_reg_posted, posted]
  split
  next ha => rw [ha, or_bit_of_set h]
  next => rfl

/-! ### What every operation but a host's clear, a reset and an advance keeps

`Steady s t` says four things at once of what is done from `s` to `t`, each of which passes on from one operation to the next: so
one walk over the rules' operations serves O10, O12, O52 and O57. -/

/-- From `s` to `t` the clock stands, no bit of IRQ_STATUS is cleared, and the reports of the lines and the times of the pending
events stay right. -/
structure Steady (s t : State) : Prop where
  now : t.now = s.now
  status : ∀ n, bit (s.reg Addr.irqStatus) n = true → bit (t.reg Addr.irqStatus) n = true
  lines : s.LinesReported → t.LinesReported
  events : s.EventsAhead → t.EventsAhead

/-- What these four read of a state. -/
def State.steadyView (s : State) : Nat × Byte × Byte × List Output × Pending :=
  (s.now, s.reg Addr.irqStatus, s.reg Addr.irqMask, s.outputs, s.pending)

namespace Steady

section
variable {s t u : State}

theorem refl : Steady s s := ⟨rfl, fun _ => id, id, id⟩

theorem ite {c : Prop} [Decidable c] (ht : Steady s t) (hu : Steady s u) : Steady s (if c then t else u) := by
  split
  · exact ht
  · exact hu

variable (h : Steady s t)
include h

theorem trans (hu : Steady t u) : Steady s u :=
  ⟨hu.now.trans h.now, fun n hn => hu.status n (h.status n hn), hu.lines ∘ h.lines, hu.events ∘ h.events⟩

theorem elsewhere (hu : u.steadyView = t.steadyView := by rfl) : Steady s u := by
  simp only [State.steadyView, Prod.mk.injEq] at hu
  obtain ⟨hNow, hStatus, hMask, hOut, hPending⟩ := hu
  refine h.trans ⟨hNow, fun n hn => by rwa [hStatus], fun hLines l => ?_, fun hEvents => ?_⟩
  · rw [hOut, hStatus, hMask, hLines]
  · rwa [State.EventsAhead, hPending, hNow]

theorem emit (o : Output) (ho : ∀ k level, o ≠ .irqLine k level := by nofun) : Steady s (t.emit o) :=
  h.trans ⟨rfl, fun _ => id, fun hLines l => (lastLevel_snoc_other _ ho l).trans (hLines l), id⟩

theorem diag (d : Diag) : Steady s (t.diag d) := h.emit _

theorem setReg {a : Nat} (v : Byte) (ha : a ∉ [Addr.irqStatus, Addr.irqMask] := by decide) : Steady s (t.setReg a v) := by
  simp only [List.mem_cons, List.not_mem_nil, or_false, not_or] at ha
  obtain ⟨hStatus, hMask⟩ := ha
  exact h.elsewhere (by simp [State.steadyView, Ne.symm hStatus, Ne.symm hMask])

theorem setFb (i : BitVec 7) (v : Byte) : Steady s (t.setFb i v) := h.setReg v (fbAddr_notMem i (by decide))

theorem setTrac (c : BitVec 3) : Steady s (t.setTrac c) := h.setReg _

theorem setState (x : OpState) : Steady s (t.setState x) := by
  have hEntered := ((h.setReg (a := Addr.trxStatus) (cat 8 (field (t.reg Addr.trxStatus) 5 3) x.code)).emit
    (.powerMode (powerIndex x t.txPwr))).emit (.probe t.opState x)
  exact hEntered.elsewhere (by simp [State.steadyView])

theorem post (l : IrqLine) : Steady s (t.post l) :=
  h.trans
    { now := rfl
      status := fun n hn => by rw [post_reg_posted, posted, if_pos rfl, bit_or, hn, Bool.true_or]
      lines := fun hLines => updateIrqLines_linesReported hLines
      events := id }

theorem writeIrqMask (v : Byte) : Steady s (t.writeIrqMask v) :=
  h.trans
    { now := rfl
      status := fun n hn => by rwa [writeIrqMask_reg, if_neg (by decide)]
      lines := fun hLines => updateIrqLines_linesReported hLines
      events := id }

/-- An event set to a time not in the past, or cleared. -/
theorem setPending (e : Event) (due : Option Nat) (hDue : ∀ d, due = some d → t.now ≤ d) :
    Steady s { t with pending := t.pending.set e due } := by
  refine h.trans ⟨rfl, fun _ => id, id, fun hEvents => (allows_iff _ _).mpr fun e' d hd => ?_⟩
  rw [pending_get_set] at hd
  split_ifs at hd
  · exact hDue d hd
  · exact (allows_iff _ _).mp hEvents e' d hd

theorem schedule (e : Event) (d : Nat) : Steady s (t.schedule e d) :=
  h.setPending e _ fun _ hd => Option.some.inj hd ▸ Nat.le_add_right _ _

theorem cancel (e : Event) : Steady s (t.cancel e) := h.setPending e none nofun

/-! ### The units, CCA and CSMA -/

theorem startTx (k : TxKind) : Steady s (t.startTx k) := ite (h.diag _) (h.emit (.beginTransmit _ _)).elsewhere
theorem stopTx : Steady s t.stopTx := ite (h.emit .endTransmit).elsewhere (h.diag _)
theorem startRx : Steady s t.startRx := ite (h.diag _) (h.emit (.beginReceive _)).elsewhere
theorem stopRx : Steady s t.stopRx := ite (h.emit .endReceive).elsewhere (h.diag _)

theorem csmaStartOrTx : Steady s t.csmaStartOrTx := by
  refine ite (h.startTx _) ?_
  exact schedule h.elsewhere _ _

theorem beginAret : Steady s t.beginAret := by
  unfold State.beginAret
  exact csmaStartOrTx (h.setState .busyTxAret).elsewhere

theorem aretFinish (c : BitVec 3) : Steady s (t.aretFinish c) := by
  unfold State.aretFinish
  extract_lets cleared txStopped stopped
  have hCleared : Steady s cleared := h.elsewhere
  have hTx : Steady s txStopped := ite hCleared.stopTx hCleared
  have hStopped : Steady s stopped := ite hTx.stopRx hTx
  exact ((hStopped.setTrac c).setState _).post _

theorem aretCca : Steady s t.aretCca := by
  have hDrawn : Steady s t.popEnergy := h.elsewhere
  refine ite (ite ?_ (hDrawn.aretFinish _)) (hDrawn.startTx _)
  exact schedule (hDrawn.elsewhere (by simp [State.steadyView, State.popEnergy])) _ _

theorem manualCcaComplete : Steady s t.manualCcaComplete := by
  have hDrawn : Steady s t.popEnergy := h.elsewhere
  exact ((hDrawn.setReg _).setReg _).post _

theorem onCcaDelay : Steady s t.onCcaDelay := ite h.aretCca h.manualCcaComplete

theorem onAckTimeout : Steady s t.onAckTimeout := by
  have hStopped : Steady s (State.stopRx { t with awaitingAck := false }) := stopRx h.elsewhere
  exact ite (ite (csmaStartOrTx hStopped.elsewhere) (hStopped.aretFinish _)) h

/-! ### Commands -/

theorem abortSequence : Steady s t.abortSequence := ((cancel h.elsewhere _).cancel _).cancel _

theorem unitsStopped (x : OpState) : Steady s (t.abortSequence.stopTx.stopRx.setState x) :=
  h.abortSequence.stopTx.stopRx.setState x

theorem listening (x : OpState) : Steady s (t.abortSequence.stopTx.startRx.setState x) :=
  h.abortSequence.stopTx.startRx.setState x

theorem startFrame : Steady s ((t.setState .busyTx).startTx .data) := (h.setState _).startTx _

theorem cmdTxStart : Steady s t.cmdTxStart := ite h.startFrame (ite h.beginAret (h.diag _))

theorem cmdManualCca : Steady s t.cmdManualCca := by
  unfold State.cmdManualCca
  extract_lets cleared
  have hCleared : Steady s cleared := h.setReg _
  exact schedule hCleared.elsewhere _ _

theorem runCommand (c : Command) : Steady s (t.runCommand c) := by
  cases c with
  | nop => exact h
  | txStart => exact h.cmdTxStart
  | forceTrxOff | forcePllOn | trxOff | pllOn | txAretOn => exact h.unitsStopped _
  | rxOn | rxAackOn => exact h.listening _
  | invalid code => exact h.diag _
  | manualCca => exact h.cmdManualCca

theorem commandInOff (c : Command) : Steady s (t.commandInOff c) := by
  cases c with
  | trxOff | forceTrxOff => exact h.setState _
  | nop => exact h
  | txStart | forcePllOn | rxOn | pllOn | rxAackOn | txAretOn | invalid | manualCca => exact h.diag _

theorem applyCommand (c : Command) : Steady s (t.applyCommand c) :=
  ite (h.diag _) (ite (h.commandInOff c) (h.runCommand c))

theorem writeTrxState (code : BitVec 5) : Steady s (t.writeTrxState code) := (h.setReg _).applyCommand _

theorem writePhyCcCca (request : Bool) (mode : BitVec 2) (channel : BitVec 5) :
    Steady s (t.writePhyCcCca request mode channel) :=
  ite ((h.setReg _).applyCommand _) (h.setReg _)

/-! ### The control line -/

theorem risingEdge : Steady s t.risingEdge :=
  ite ((h.setState _).setReg _) (ite h.startFrame (ite h.beginAret (h.diag _)))

theorem pinTransition (raised : Bool) : Steady s (t.pinTransition raised) :=
  ite h.risingEdge (ite ((h.setState _).schedule _ _) h)

theorem pinInput (raised : Bool) : Steady s (t.pinInput raised) := by
  unfold State.pinInput
  extract_lets v stored
  have hStored : Steady s stored := h.setReg _
  exact ite (h.diag _) (pinTransition hStored.elsewhere _)

theorem writeTrxpr (upper : BitVec 6) (slptr : Bool) : Steady s (t.writeTrxpr upper slptr) := by
  unfold State.writeTrxpr
  extract_lets old byteStored stored
  have hByte : Steady s byteStored := h.setReg _
  have hStored : Steady s stored := hByte.elsewhere
  exact ite hStored (hStored.pinTransition _)

theorem onWakeup : Steady s t.onWakeup := ite ((h.setState _).post _) h

/-! ### The Receiver -/

theorem rejectFrame : Steady s t.rejectFrame := h.elsewhere

theorem frameTypeCheck (b : Byte) : Steady s (t.frameTypeCheck b) := by
  rw [frameTypeCheck_eq]
  exact h.elsewhere

theorem addressMatch (b : Byte) (p : Nat) : Steady s (t.addressMatch b p) := by
  have hPan : Steady s t.panCheck := ite (ite h.rejectFrame h) h
  have hShort : Steady s t.shortCheck := ite (ite (h.post _) h.rejectFrame) h
  have hExt : Steady s t.extCheck := ite (ite (h.post _) h.rejectFrame) h
  exact ite h (ite (h.frameTypeCheck b) (ite h.elsewhere (ite h.elsewhere (ite hPan (ite hShort (ite hExt h))))))

theorem setRxCursor (c : RxCursor) : Steady s (t.setRxCursor c) := h.elsewhere

theorem returnToListen : Steady s t.returnToListen := h.setState _

theorem lockLost : Steady s t.lockLost := by
  have hScan := h.setRxCursor .sfdScan
  exact ite (ite (hScan.schedule _ _) hScan) (ite hScan.returnToListen hScan)

theorem sfdMatch : Steady s t.sfdMatch := by
  unfold State.sfdMatch
  extract_lets _ begun cleared
  have hBegun : Steady s begun := h.elsewhere
  have hCleared : Steady s cleared := hBegun.setReg _
  exact ite (h.setRxCursor _) (ite hCleared ((hCleared.setState _).post _))

theorem sync (b : Byte) : Steady s (t.sync b) :=
  ite (ite (h.setRxCursor _) h) (ite h.sfdMatch (ite h (h.setRxCursor _)))

theorem lengthByte (b : Byte) : Steady s (t.lengthByte b) := by
  have hScan := h.setRxCursor .sfdScan
  refine ite (ite hScan hScan.returnToListen) (ite h.elsewhere ?_)
  exact setReg (setFb h.elsewhere _ _) _

theorem takePayload (b : Byte) (p : Nat) : Steady s (t.takePayload b p) := by
  unfold State.takePayload
  extract_lets stored _ asked
  have hStored : Steady s stored := h.setFb _ _
  have hAsked : Steady s asked := ite hStored.elsewhere hStored
  refine ite ?_ hAsked
  exact addressMatch hAsked.elsewhere b p

theorem ackSeqCheck (b : Byte) : Steady s (t.ackSeqCheck b) := ite h.elsewhere ((h.setRxCursor _).schedule _ _)

theorem payloadByte (b : Byte) : Steady s (t.payloadByte b) := by
  unfold State.payloadByte
  extract_lets p _ counted taken
  have hCounted : Steady s counted := h.elsewhere
  have hTaken : Steady s taken := ite (ite (hCounted.ackSeqCheck b) hCounted) (hCounted.takePayload b p)
  exact ite (hTaken.setRxCursor _) hTaken

theorem crcByte1 (b : Byte) : Steady s (t.crcByte1 b) := by
  refine ite h.elsewhere ?_
  exact setFb h.elsewhere _ _

theorem acceptedEnd : Steady s t.acceptedEnd := by
  have hPosted := h.post .rxEnd
  refine ite ?_ hPosted.returnToListen
  exact schedule hPosted.elsewhere _ _

theorem ackFrameEnd : Steady s t.ackFrameEnd := by
  unfold State.ackFrameEnd
  extract_lets stopped
  have hStopped : Steady s stopped := stopRx (cancel h.elsewhere _)
  refine ite ?_ (h.schedule _ _)
  exact post (setTrac (setState hStopped.elsewhere _) _) _

theorem rxEnd : Steady s t.rxEnd := by
  have hScan := h.setRxCursor .sfdScan
  exact ite hScan.ackFrameEnd (ite hScan.returnToListen hScan.acceptedEnd)

theorem markCrc (ok : Bool) : Steady s (t.markCrc ok) := by
  have hByte := h.setReg (a := Addr.phyRssi) (cat 8 (bitOf ok) (field (t.reg Addr.phyRssi) 0 7))
  exact hByte.elsewhere

theorem crcByte2 (b : Byte) : Steady s (t.crcByte2 b) := by
  have hMarked := h.markCrc (t.crcMatches b)
  have hChecked : Steady s (t.crcCheck b) := ite hMarked (hMarked.setFb _ _)
  exact (hChecked.setRxCursor _).rxEnd

theorem receiveByte (b : Byte) : Steady s (t.receiveByte b) := by
  unfold State.receiveByte
  split
  · exact h.sync b
  · exact h.sync b
  · exact h.lengthByte b
  · exact h.payloadByte b
  · exact h.crcByte1 b
  · exact h.crcByte2 b
  · exact h

theorem sampleRssi : Steady s t.sampleRssi := setReg h.elsewhere _

theorem deliver (locked : Bool) (b : Byte) : Steady s (t.deliver locked b) :=
  ite (ite (h.sampleRssi.receiveByte b) h.sampleRssi.lockLost) h

theorem onAckTrigger : Steady s t.onAckTrigger := by
  refine ite ?_ (ite (h.setState _) h)
  exact startTx (stopRx h.elsewhere) _

/-! ### The Transmitter -/

theorem txEnd : Steady s t.txEnd := by
  have hDone : Steady s t.txEndDone := by
    refine post (setTrac (ite ?_ (h.stopTx.setState _)) _) _
    exact setState h.stopTx.elsewhere _
  refine ite (h.stopTx.startRx.setState _) (ite ?_ hDone)
  exact startRx (stopTx (schedule h.elsewhere _ _))

theorem pullActive : Steady s t.pullActive := by
  unfold State.pullActive
  split
  · exact emit h.elsewhere _
  · exact emit h.elsewhere _
  · exact emit h.elsewhere _
  · exact emit h.elsewhere _
  · exact emit h.elsewhere _
  · exact txEnd (emit h.elsewhere _)
  · exact h

end

end Steady

/-! ### What an input does to the clock, the events and the interrupt lines -/

/-- The next states of an input `i`: steady, or one of four exceptions, which name the inputs that lead there. A host write
outside WR's own addresses is not well-formed and does what the row of its address does (log 25). -/
inductive Moves (s : State) (i : Instr) : State → Prop where
  | steady {t : State} (h : Steady s t) : Moves s i t
  | irqCleared (v : Byte) (hi : i.wf = true → i = .clrirq v) : Moves s i (s.clearIrq v)
  | poweredOn (hi : i = .resetPor) : Moves s i s.powerOnReset
  | restarted (hi : i.wf = true → i = .trxrst ∨ i = .resetExplicit) : Moves s i s.explicitReset
  | advanced (n : BitVec 17) (hi : i = .adv n) (hn : s.pending.allows (s.now + n.toNat) = true) :
    Moves s i { s with now := s.now + n.toNat }

/-- The next state of a row that always completes is the one its meaning answers. -/
theorem Moves.of_next {s t u : State} {i : Instr} (h : (.next u : Result) = .next t) (hu : Moves s i u) : Moves s i t := by
  cases h
  exact hu

theorem execPull_next {s t : State} (h : execPull s = .next t) :
    s.tx.active = true ∧ s.tx.leadUntil ≤ s.now ∧ t = s.pullActive ∨
      s.tx.active = false ∧ t = (s.emit (.txByte 0x00#8)).diag .pullWhileStopped := by
  unfold execPull at h
  split_ifs at h with hActive hLead
  · cases h
    exact .inl ⟨hActive, hLead, rfl⟩
  · cases h
    exact .inr ⟨eq_false_of_ne_true hActive, rfl⟩

theorem execAdv_next {s t : State} {n : BitVec 17} (h : execAdv n s = .next t) :
    s.pending.allows (s.now + n.toNat) = true ∧ t = { s with now := s.now + n.toNat } := by
  unfold execAdv at h
  split_ifs at h with hn
  cases h
  exact ⟨hn, rfl⟩

theorem hostWrite_moves (s : State) (a : RegAddr) (v : Byte) : Moves s (.wr a v) (s.hostWrite a.toNat v) := by
  have hs : Steady s s := .refl
  by_cases hPlain : a.toNat ∈ specialWriteAddrs
  · have hWf : (Instr.wr a v).wf ≠ true := fun h => notMem_of_plainWriteAddr h hPlain
    unfold State.hostWrite
    split_ifs
    · exact .restarted fun h => absurd h hWf
    · exact .steady (hs.writeTrxpr _ _)
    · exact .steady (hs.writeTrxState _)
    · exact .steady (hs.writePhyCcCca _ _ _)
    · exact .irqCleared v fun h => absurd h hWf
    · exact .steady (hs.writeIrqMask v)
    · exact .steady (hs.diag _)
    · exact .steady (hs.setReg v (by simp_all))
  · rw [hostWrite_of_notMem s v hPlain]
    exact .steady (hs.setReg v fun h => hPlain ((by decide : [Addr.irqStatus, Addr.irqMask] ⊆ specialWriteAddrs) h))

theorem exec_moves {i : Instr} {s t : State} (h : exec i s = .next t) : Moves s i t := by
  have hs : Steady s s := .refl
  have fired {e : Event} {handler : State → State} (h : fire e handler s = .next t)
      (hu : Steady s (s.cancel e) → Steady s (handler (s.cancel e))) : Moves s i t := by
    obtain ⟨-, rfl⟩ := fire_next s e handler t h
    exact .steady (hu (hs.cancel e))
  cases i with
  | rd addr => exact .of_next h (.steady (hs.emit (.readData _)))
  | wr addr data => exact .of_next h (hostWrite_moves s addr data)
  | wrFb index data => exact .of_next h (.steady (hs.setFb index data))
  | cca mode channel => exact .of_next h (.steady (hs.writePhyCcCca true mode channel))
  | wrPhyCcCca mode channel => exact .of_next h (.steady (hs.writePhyCcCca false mode channel))
  | trxrst => exact .of_next h (.restarted fun _ => .inl rfl)
  | wrTrxprSlptr upper slptr => exact .of_next h (.steady (hs.writeTrxpr upper slptr))
  | clrirq clearMask => exact .of_next h (.irqCleared clearMask fun _ => rfl)
  | wrIrqMask mask => exact .of_next h (.steady (hs.writeIrqMask mask))
  | wrRoTrxStatus | wrRoPhyRssi | wrRoPhyEdLevel | wrRoTstRxLength => exact .of_next h (.steady (hs.diag _))
  | pull =>
    obtain ⟨-, -, rfl⟩ | ⟨-, rfl⟩ := execPull_next h
    · exact .steady hs.pullActive
    · exact .steady ((hs.emit _).diag _)
  | rxbL byte => exact .of_next h (.steady (hs.deliver true byte))
  | rxbU byte => exact .of_next h (.steady (hs.deliver false byte))
  | fireCcaDelay => exact fired h Steady.onCcaDelay
  | fireWakeup => exact fired h Steady.onWakeup
  | fireAckTimeout => exact fired h Steady.onAckTimeout
  | fireAckTrigger => exact fired h Steady.onAckTrigger
  | pin1 => exact .of_next h (.steady (hs.pinInput true))
  | pin0 => exact .of_next h (.steady (hs.pinInput false))
  | resetPor => exact .of_next h (.poweredOn rfl)
  | resetExplicit => exact .of_next h (.restarted fun _ => .inr rfl)
  | adv n =>
    obtain ⟨hn, rfl⟩ := execAdv_next h
    exact .advanced n rfl hn
  | _ =>
    -- the rows of the commands (30_encoding.md R120, R121)
    exact .of_next h (.steady (hs.writeTrxState _))

/-- So every step moves, its input being that of the list's first word. -/
theorem step_moves {s t : State} (h : step s = .next t) : ∃ i, Moves { s with inputs := s.inputs.tail } i t := by
  cases hi : s.inputs with
  | nil =>
    rw [step_of_inputs_nil hi] at h
    cases h
  | cons w rest =>
    rw [step_of_inputs_cons hi] at h
    exact ⟨decode w, exec_moves h⟩

namespace Moves

variable {s t : State} {i : Instr}

theorem now (h : Moves s i t) (hi : ∀ n, i ≠ .adv n) : t.now = s.now := by
  cases h with
  | steady h => exact h.now
  | irqCleared | poweredOn | restarted => rfl
  | advanced n hAdv => exact absurd hAdv (hi n)

theorem status (h : Moves s i t) (hWf : i.wf = true) (hClear : ∀ v, i ≠ .clrirq v)
    (hReset : i ∉ [.trxrst, .resetPor, .resetExplicit]) (n : Nat) (hn : bit (s.reg Addr.irqStatus) n = true) :
    bit (t.reg Addr.irqStatus) n = true := by
  cases h with
  | steady h => exact h.status n hn
  | irqCleared v hi => exact absurd (hi hWf) (hClear v)
  | poweredOn hi => simp [hi] at hReset
  | restarted hi => obtain rfl | rfl := hi hWf <;> simp at hReset
  | advanced => exact hn

/-- A reset lets the lines fall and reports it; its other outputs are no reports (70_reset_and_hazards.md R410, R411). -/
theorem linesReported (h : Moves s i t) (hs : s.LinesReported) : t.LinesReported := by
  cases h with
  | steady h => exact h.lines hs
  | irqCleared v => exact clearIrq_linesReported hs v
  | poweredOn =>
    have hAnnounced : Steady s.resetFields s.powerOnReset := (Steady.refl.emit _).emit _
    exact hAnnounced.lines (resetFields_linesReported hs)
  | restarted =>
    have hEntered : Steady s.resetFields s.explicitReset := Steady.refl.setState _
    exact hEntered.lines (resetFields_linesReported hs)
  | advanced => exact hs

/-- After a reset no event is pending (R410). -/
theorem eventsAhead (h : Moves s i t) (hs : s.EventsAhead) : t.EventsAhead := by
  cases h with
  | steady h => exact h.events hs
  | irqCleared => exact hs
  | poweredOn | restarted => rfl
  | advanced n hi hn => exact hn

end Moves

/-! ### Admission (00_scope.md R11, 42_transmitter.md R201, 60_exceptions.md R383, R384) -/

/-- A meaning completes exactly under a condition, and otherwise stops by name. -/
structure CompletesWhen (r : Result) (c : Prop) : Prop where
  iff : c ↔ ∃ t, r = .next t
  modelled : ∀ f, r ≠ .refused f

theorem completesWhen_next (t : State) : CompletesWhen (.next t) True := ⟨by simp, nofun⟩

theorem completesWhen_guarded {c : Prop} [Decidable c] (t : State) (f : Fault) :
    CompletesWhen (if c then .next t else .fault f) c := by
  by_cases hc : c
  · exact ⟨by simp [hc], by simp [hc]⟩
  · exact ⟨by simp [hc], by simp [hc]⟩

theorem execPull_completesWhen (s : State) :
    CompletesWhen (execPull s) (s.tx.active = true → s.tx.leadUntil ≤ s.now) := by
  unfold execPull
  cases hActive : s.tx.active with
  | true => simpa using completesWhen_guarded _ _
  | false => simpa using completesWhen_next _

theorem execAdv_completesWhen (n : BitVec 17) (s : State) :
    CompletesWhen (execAdv n s) (∀ e due, s.pending.get e = some due → s.now + n.toNat ≤ due) := by
  rw [← allows_iff]
  exact completesWhen_guarded _ _

theorem exec_completesWhen (i : Instr) (s : State) : CompletesWhen (exec i s) (Admitted i s) := by
  cases i with
  | pull => exact execPull_completesWhen s
  | adv n => exact execAdv_completesWhen n s
  | fireCcaDelay | fireWakeup | fireAckTimeout | fireAckTrigger => exact completesWhen_guarded _ _
  | _ =>
    -- no other meaning has a guard
    exact completesWhen_next _

/-- A firing that is not due stops (R384). -/
theorem fire_notDue {e : Event} {s : State} (h : s.pending.get e ≠ some s.now) (handler : State → State) :
    fire e handler s = .fault (.fireNotDue e) := if_neg h

theorem execAdv_admitted {n : BitVec 17} {s : State} (h : ∀ e due, s.pending.get e = some due → s.now + n.toNat ≤ due) :
    execAdv n s = .next { s with now := s.now + n.toNat } := if_pos ((allows_iff _ _).mpr h)

theorem execAdv_pastEvent {n : BitVec 17} {s : State} {e : Event} {due : Nat} (hDue : s.pending.get e = some due)
    (hPast : due < s.now + n.toNat) : execAdv n s = .fault .advancePastEvent :=
  if_neg fun hAllows => Nat.not_le.mpr hPast ((allows_iff _ _).mp hAllows e due hDue)

/-! ### SLEEP (60_exceptions.md R387) -/

section
variable {s : State}

/-- In SLEEP nothing runs (10_state.md R59). -/
theorem State.Sequenced.idle_of_sleep (h : s.Sequenced) (hS : s.opState = .sleep) : s.Idle := by
  obtain ⟨hRx, hTx, hWait, hAret, hSend, -, -, -⟩ := h
  have hAretOff : s.aretActive = false := by simpa [hS] using hAret
  constructor <;> simp_all

variable (hS : s.opState = .sleep)
include hS

theorem applyCommand_of_sleep (c : Command) : (s.applyCommand c).opState = .sleep := by
  rw [applyCommand_of_gated (.inl hS), diag_opState, hS]

theorem writeTrxState_of_sleep (code : BitVec 5) : (s.writeTrxState code).opState = .sleep :=
  applyCommand_of_sleep (s := s.setReg _ _) hS _

theorem writePhyCcCca_of_sleep (request : Bool) (mode : BitVec 2) (channel : BitVec 5) :
    (s.writePhyCcCca request mode channel).opState = .sleep := by
  cases request with
  | true => exact applyCommand_of_sleep (s := s.setReg _ _) hS _
  | false => exact hS

/-- Only the falling edge wakes (41_commands.md R184, R185). -/
theorem pinTransition_of_sleep (raised : Bool) :
    (s.pinTransition raised).opState = if raised then .sleep else .transition := by
  cases raised <;> simp [State.pinTransition, State.risingEdge, State.fallingEdge, hS]

theorem pinInput_of_sleep (raised : Bool) :
    (s.pinInput raised).opState = .sleep ∨ raised = false ∧ (s.pinInput raised).opState = .transition := by
  unfold State.pinInput
  extract_lets v stored
  split_ifs
  · exact .inl hS
  · rw [pinTransition_of_sleep (s := { stored with pinLevel := raised }) hS]
    cases raised <;> simp

theorem writeTrxpr_of_sleep (upper : BitVec 6) (slptr : Bool) :
    (s.writeTrxpr upper slptr).opState = .sleep ∨ slptr = false ∧ (s.writeTrxpr upper slptr).opState = .transition := by
  unfold State.writeTrxpr
  extract_lets old byteStored stored
  split_ifs
  · exact .inl hS
  · rw [pinTransition_of_sleep (s := stored) hS]
    cases slptr <;> simp

theorem onCcaDelay_of_sleep (hAret : s.aretActive = false) : s.onCcaDelay.opState = .sleep := by
  rw [onCcaDelay_manual (by simp [hAret])]
  exact hS

theorem onWakeup_of_sleep : s.onWakeup.opState = .sleep := by simp [State.onWakeup, hS]

theorem onAckTimeout_of_sleep (hWait : s.awaitingAck = false) : s.onAckTimeout.opState = .sleep := by
  rw [onAckTimeout_idle hWait, hS]

theorem onAckTrigger_of_sleep : s.onAckTrigger.opState = .sleep := by
  rw [onAckTrigger_nothing (.inl (by simp [hS])), hS]

/-- From SLEEP an input leads nowhere, into TRANSITION, or through a reset. -/
theorem exec_of_sleep {i : Instr} {t : State} (hIdle : s.Idle) (hWf : i.wf = true) (h : exec i s = .next t) :
    t.opState = .sleep ∨ (t.opState = .transition ∧ (i = .pin0 ∨ ∃ u, i = .wrTrxprSlptr u false)) ∨
      i = .trxrst ∨ i = .resetPor ∨ i = .resetExplicit := by
  have stays {u : State} (h : (.next u : Result) = .next t) (hu : u.opState = .sleep) : t.opState = .sleep := by
    cases h
    exact hu
  have fired {e : Event} {handler : State → State} (h : fire e handler s = .next t)
      (hu : (handler (s.cancel e)).opState = .sleep) : t.opState = .sleep := by
    obtain ⟨-, rfl⟩ := fire_next s e handler t h
    exact hu
  have delivered (locked : Bool) (b : Byte) : (s.deliver locked b).opState = .sleep := by
    simp [State.deliver, hIdle.rx, hS]
  cases i with
  | rd | wrFb | clrirq | wrIrqMask | wrRoTrxStatus | wrRoPhyRssi | wrRoPhyEdLevel | wrRoTstRxLength =>
    exact .inl (stays h hS)
  | wr addr data =>
    rw [exec_wr_of_plain s data hWf] at h
    exact .inl (stays h hS)
  | cca mode channel | wrPhyCcCca mode channel => exact .inl (stays h (writePhyCcCca_of_sleep hS _ mode channel))
  | trxrst | resetPor | resetExplicit => simp
  | wrTrxprSlptr upper slptr =>
    cases h
    obtain hStay | ⟨rfl, hWake⟩ := writeTrxpr_of_sleep hS upper slptr
    · exact .inl hStay
    · exact .inr (.inl ⟨hWake, .inr ⟨upper, rfl⟩⟩)
  | pull =>
    obtain ⟨hActive, -⟩ | ⟨-, rfl⟩ := execPull_next h
    · simp [hIdle.tx] at hActive
    · exact .inl hS
  | rxbL b | rxbU b => exact .inl (stays h (delivered _ b))
  | fireCcaDelay => exact .inl (fired h (onCcaDelay_of_sleep (s := s.cancel _) hS hIdle.aret))
  | fireWakeup => exact .inl (fired h (onWakeup_of_sleep (s := s.cancel _) hS))
  | fireAckTimeout => exact .inl (fired h (onAckTimeout_of_sleep (s := s.cancel _) hS hIdle.noWait))
  | fireAckTrigger => exact .inl (fired h (onAckTrigger_of_sleep (s := s.cancel _) hS))
  | pin1 =>
    cases h
    exact .inl ((pinInput_of_sleep hS true).resolve_right (by simp))
  | pin0 =>
    cases h
    obtain hStay | ⟨-, hWake⟩ := pinInput_of_sleep hS false
    · exact .inl hStay
    · exact .inr (.inl ⟨hWake, .inl rfl⟩)
  | adv n =>
    obtain ⟨-, rfl⟩ := execAdv_next h
    exact .inl hS
  | _ =>
    -- the rows of the commands, which SLEEP ignores (41_commands.md R161)
    exact .inl (stays h (writeTrxState_of_sleep hS _))

end

end Sys2Proof.Machine

section
open Sys2Proof.Machine

/-- Settles O12: every update of the interrupt registers reports the levels that change (`updateIrqLines_linesReported`), and no
other operation moves or reports a line (`Steady.elsewhere`, `Steady.emit`). -/
theorem outputsReportLineLevels : Obligations.OutputsReportLineLevels := by
  unfold Obligations.OutputsReportLineLevels
  intro s t hs h
  obtain ⟨i, hMoves⟩ := step_moves h
  exact hMoves.linesReported hs

/-- Settles O9: what `update_irq_lines()` answers for the byte written. -/
theorem irqMaskWriteMovesLines : Obligations.IrqMaskWriteMovesLines := by
  unfold Obligations.IrqMaskWriteMovesLines
  exact fun v s => writeIrqMask_answers s v

/-- Settles O10: the clear's exact answer; every other operation of a well-formed input but a reset only sets status bits
(`Steady.post`) or leaves them. -/
theorem irqStatusClearedByHostOnly : Obligations.IrqStatusClearedByHostOnly := by
  unfold Obligations.IrqStatusClearedByHostOnly
  refine ⟨fun v s => clearIrq_answers s v, fun i s t n hWf h hClear hTrxrst hPor hExplicit => ?_⟩
  exact (exec_moves h).status hWf hClear (by simp [hTrxrst, hPor, hExplicit]) n

/-- Settles O11: a post moves its own line at most (`post_outputs_rise`), and setting a set bit changes nothing. -/
theorem postSetsStatusBit : Obligations.PostSetsStatusBit := by
  unfold Obligations.PostSetsStatusBit
  intro s l
  obtain ⟨_, ⟨⟩, hLike, hReg⟩ := post_answers s l
  refine ⟨hLike, hReg, fun hPosted => ⟨?_, post_reg_of_posted hPosted⟩⟩
  rw [post_outputs_rise, rise_of_posted hPosted, List.append_nil]

/-- Settles O52: the two branches of ADV; no other input writes `now` (`Moves.now`). -/
theorem clockAdvance : Obligations.ClockAdvance := by
  unfold Obligations.ClockAdvance
  refine ⟨fun n s => ⟨execAdv_admitted, ?_⟩, fun i s t h => (exec_moves h).now⟩
  rintro ⟨e, due, hDue, hPast⟩
  exact execAdv_pastEvent hDue hPast

/-- Settles O53: each meaning's guard is its admission condition (`exec_completesWhen`). -/
theorem admittedInputsComplete : Obligations.AdmittedInputsComplete := by
  unfold Obligations.AdmittedInputsComplete
  intro i s
  refine ⟨(exec_completesWhen i s).iff, (exec_completesWhen i s).modelled, fun e he hNotDue => ?_⟩
  simp only [List.mem_cons, Prod.mk.injEq, List.not_mem_nil, or_false] at he
  obtain ⟨rfl, rfl⟩ | ⟨rfl, rfl⟩ | ⟨rfl, rfl⟩ | ⟨rfl, rfl⟩ := he <;> exact fire_notDue hNotDue _

/-- Settles O57: events are scheduled at `now` or later (`Steady.schedule`), and the clock moves only where it passes none. -/
theorem eventsStayAhead : Obligations.EventsStayAhead := by
  unfold Obligations.EventsStayAhead
  intro s t hs h
  obtain ⟨i, hMoves⟩ := step_moves h
  exact hMoves.eventsAhead hs

/-- Settles O60: in SLEEP nothing runs, so commands, pulls, deliveries and firings leave the state (`exec_of_sleep`). -/
theorem onlyWakingLeavesSleep : Obligations.OnlyWakingLeavesSleep := by
  unfold Obligations.OnlyWakingLeavesSleep
  intro i s t hSeq hWf hS h hOut
  exact (exec_of_sleep hS (hSeq.idle_of_sleep hS) hWf h).resolve_left hOut

end

/-! ### O22, O23, O58: the resets -/

namespace Sys2Proof.Machine

/-! ### The Register File after a reset (10_state.md R23, 70_reset_and_hazards.md R410) -/

/-- The table the model resets from gives every named register the value of R23. -/
theorem fixedReset_of_mem_resetValues : ∀ c ∈ resetValues, fixedReset c.1 = some c.2 := by decide

section
variable {u : State} {n : Nat} (hu : u.regView = ([], n, .off, false, false))
include hu

theorem holdsResetValues_of_reset : u.HoldsResetValues := by
  refine ⟨?_, fun a v h => reg_of_reset hu (fixedReset_of_mem_resetValues (a, v) h)⟩
  rw [reg_of_reset hu (show fixedReset 0x145 = some 0x00#8 by decide)]
  decide

/-- Every line is low after a reset. -/
theorem irqLevels_of_reset : u.irqLevels = 0#8 := by
  have hStatus := reg_of_reset hu (show fixedReset Addr.irqStatus = some 0x00#8 by decide)
  rw [State.irqLevels, hStatus, BitVec.zero_and]

end

/-! ### The states the two resets leave (R410, R411) -/

section
variable (s : State)

/-- Both resets first output the stops of the units that ran and the lines that fall. -/
theorem resetFields_outputs :
    s.resetFields.outputs =
      s.outputs ++ (if s.tx.active then [.endTransmit] else []) ++ (if s.rx.active then [.endReceive] else []) ++
        lineChanges s.irqLevels 0#8 := by
  have hLow : s.resetFields.irqLevels = 0#8 := irqLevels_of_reset rfl
  calc s.resetFields.outputs
      = s.outputs ++ s.resetStops ++ irqChanges s.irqLevels s.resetFields.irqLevels := rfl
    _ = _ := by rw [hLow, irqChanges_eq, State.resetStops, ← List.append_assoc s.outputs]

/-- RESET POR then outputs its probe and `power_mode(0)` (log 14). -/
theorem powerOnReset_outputs :
    s.powerOnReset.outputs = s.resetFields.outputs ++ [.probe s.opState .off, .powerMode 0] := by
  rw [State.powerOnReset, emit_outputs, emit_outputs, List.append_assoc, List.singleton_append]

theorem powerOnReset_eq :
    s.powerOnReset =
      { s.poweredOn s.powerOnReset.regFile s.powerOnReset.resets with
        outputs := s.resetFields.outputs ++ [.probe s.opState .off, .powerMode 0] } := by
  rw [← powerOnReset_outputs]
  rfl

theorem powerOnReset_reg (a : Nat) : s.powerOnReset.reg a = s.resetFields.reg a := rfl

/-- An explicit reset leaves the state of RESET POR but for `setState(TRX_OFF)`. -/
theorem explicitReset_eq :
    s.explicitReset =
      { s.powerOnReset with
        regFile := s.explicitReset.regFile
        opState := .trxOff
        powerMode := 1
        outputs := s.resetFields.outputs ++ [.powerMode 1, .probe .off .trxOff] } :=
  rfl

theorem explicitReset_reg (a : Nat) :
    s.explicitReset.reg a = if a = Addr.trxStatus then 0x08#8 else s.powerOnReset.reg a := by
  have hStatus : s.resetFields.reg Addr.trxStatus = 0x00#8 := reg_of_reset rfl (by decide)
  have hCode : cat 8 (field 0x00#8 5 3) OpState.trxOff.code = 0x08#8 := by decide
  rw [State.explicitReset, setState_reg, hStatus, hCode, powerOnReset_reg]

/-- Either input of R411 runs the explicit reset. -/
theorem exec_explicitReset {i : Instr} (hi : i = .resetExplicit ∨ i = .trxrst) :
    exec i s = .next s.explicitReset := by
  obtain rfl | rfl := hi <;> rfl

end

/-! ### The initial state -/

/-- The initial state is idle, its cursors at rest. -/
theorem reset_sound : State.reset.Sound :=
  ⟨.reset, .of_stopped rfl, .idle ⟨rfl, rfl, rfl, rfl, rfl, show OpState.off ≠ .busyTxAret by decide⟩⟩

/-- No line has been reported, and none is high. -/
theorem reset_linesReported : State.reset.LinesReported := fun l => by
  have hLow : State.reset.irqLevels = 0#8 := irqLevels_of_reset rfl
  have hUnreported : lastLevel State.reset.outputs l = false := lastLevel_snoc_other [] (by simp) l
  rw [hUnreported, ← State.irqLevels, hLow, bit, BitVec.getLsbD_zero]

end Sys2Proof.Machine

section
open Sys2Proof.Machine

/-- Settles O22: the two resets' common part (`resetFields_outputs`), then RESET POR's two outputs; an emptied Register File
reads the reset values (`holdsResetValues_of_reset`). -/
theorem powerOnReset : Obligations.PowerOnReset := by
  unfold Obligations.PowerOnReset
  refine ⟨fun s => ⟨s.powerOnReset, [.probe s.opState .off, .powerMode 0], rfl, .inl rfl, ?_, ?_⟩, rfl, rfl, rfl, ?_⟩
  · exact (resetFields_outputs s) ▸ powerOnReset_eq s
  · exact holdsResetValues_of_reset rfl
  · exact holdsResetValues_of_reset rfl

/-- Settles O23: both resets have one common part, which `setState(TRX_OFF)` follows here. -/
theorem explicitReset : Obligations.ExplicitReset := by
  unfold Obligations.ExplicitReset
  intro i s hi
  exact ⟨s.explicitReset, s.powerOnReset, exec_explicitReset s hi, rfl, (resetFields_outputs s) ▸ explicitReset_eq s,
    explicitReset_reg s⟩

/-- Settles O58: the initial state is idle (`reset_sound`) with no line reported; the registers are read off. -/
theorem resetMeetsInvariants : Obligations.ResetMeetsInvariants := by
  unfold Obligations.ResetMeetsInvariants
  have hMirrors : State.reset.Mirrors := by decide
  have hTrac : State.reset.TracLegal := .inl (by decide)
  have hNoAck : State.reset.SendAckBusy := fun h => absurd h (by decide)
  exact ⟨wf_nil, hMirrors, hTrac, reset_sound.sequenced, hNoAck, reset_sound.framesInBounds, rfl, reset_linesReported⟩

end
